-- ==== Sys2Proof/Word.lean ====
section
/-!
DEFINITION. The bit-vector types of the SigViz DSP block: bytes, 24-bit bus addresses, 32-bit
command words, 64-bit registers and the raw bit patterns of binary64 and binary32 values.
-/

namespace Sys2Proof

/-- An 8-bit unsigned value (spec/00_scope.md R8). -/
abbrev Byte := BitVec 8

/-- A byte address of the host bus (spec/20_memory.md R70). -/
abbrev Addr := BitVec 24

/-- A command word (spec/30_encoding.md R100). -/
abbrev CmdWord := BitVec 32

/-- The 64 bits of a register as the host reads and writes it (spec/10_state.md R32). -/
abbrev Word := BitVec 64

/-- The raw bit pattern of an IEEE 754 binary64 value (spec/00_scope.md R9, spec/10_state.md R32). -/
abbrev F64 := BitVec 64

/-- The raw bit pattern of an IEEE 754 binary32 value (spec/00_scope.md R8). -/
abbrev F32 := BitVec 32

end Sys2Proof
end

