-- ==== Sys2Proof/Syntax.lean ====
section
/-!
DEFINITION. The 16 commands of spec/30_encoding.md R102, one constructor for each row of
spec/opcode_table.json, with the option fields each accepts.
-/

namespace Sys2Proof

/-- The symbol index modes of the IM field (spec/30_encoding.md R101, spec/40_symbol_codec.md R133). The reserved
value 3 is no mode: decoding refuses it (R103). -/
inductive IndexMode where
  | skipneg
  | bounded
  | wrap
deriving DecidableEq, Repr

/-- A command with its option fields: `im` (IM), `nz` (NZ) and `pr` (PR) where R102 accepts them. -/
inductive Instr where
  | nop
  | sinc
  | rcos
  | getsym
  | sample (im : IndexMode) (nz : Bool)
  | sweep (im : IndexMode) (nz pr : Bool)
  | iqpoint (nz : Bool)
  | noise
  | window
  | fft
  | power
  | dbscalar
  | binmap
  | spectrum (nz : Bool)
  | hover
  | pack32
deriving DecidableEq, Repr

end Sys2Proof
end

