-- ==== Sys2Proof/WellFormed.lean ====
section
/-!
DEFINITION. The fields of a command word and when they are legal (spec/30_encoding.md R101 to R104):
the four checks of R103, the field values each instruction stands for, and what it is for an
instruction to be well formed.
-/

namespace Sys2Proof

/-- The fields of a command word (R101). -/
structure CmdFields where
  /-- Bits 31:10, which must be 0. -/
  reserved : BitVec 22
  /-- Bit 9. -/
  pr : Bool
  /-- Bit 8. -/
  nz : Bool
  /-- Bits 7:6. -/
  im : BitVec 2
  /-- Bits 5:0. -/
  opc : BitVec 6
deriving DecidableEq, Repr

/-- The option fields of R101. -/
inductive OptionField where
  | im
  | nz
  | pr
deriving DecidableEq, Repr

/-- The option fields each opcode accepts (R102). -/
def accepts (opc : BitVec 6) : List OptionField :=
  match opc.toNat with
  | 0x04 => [.im, .nz]
  | 0x05 => [.im, .nz, .pr]
  | 0x06 => [.nz]
  | 0x0D => [.nz]
  | _ => []

/-- "its reserved bits 31:10 are all 0" (R103). -/
def CmdFields.reservedClear (f : CmdFields) : Bool := f.reserved == 0

/-- "its OPC is one of 0x00 to 0x0F" (R103). -/
def CmdFields.opcodeDefined (f : CmdFields) : Bool := f.opc.toNat ≤ 0x0F

/-- "every option field the opcode does not accept is 0" (R103). -/
def CmdFields.optionsAccepted (f : CmdFields) : Bool :=
  ((accepts f.opc).contains .im || f.im == 0)
    && ((accepts f.opc).contains .nz || !f.nz)
    && ((accepts f.opc).contains .pr || !f.pr)

/-- "when the opcode accepts IM, IM != 3" (R103). -/
def CmdFields.indexModeDefined (f : CmdFields) : Bool :=
  !(accepts f.opc).contains .im || f.im != 3

/-- A legal command word, field by field (R103). -/
def CmdFields.legal (f : CmdFields) : Bool :=
  f.reservedClear && f.opcodeDefined && f.optionsAccepted && f.indexModeDefined

/-- The IM field of an index mode (R101). -/
def IndexMode.field : IndexMode → BitVec 2
  | .skipneg => 0
  | .bounded => 1
  | .wrap => 2

/-- The index mode of an IM field; the reserved value 3 is none (R101). -/
def IndexMode.ofField (im : BitVec 2) : Option IndexMode :=
  if im = 0 then some .skipneg
  else if im = 1 then some .bounded
  else if im = 2 then some .wrap
  else none

/-- The fields of the word that stands for an instruction (R102). -/
def Instr.fields : Instr → CmdFields
  | .nop => ⟨0, false, false, 0, 0x00⟩
  | .sinc => ⟨0, false, false, 0, 0x01⟩
  | .rcos => ⟨0, false, false, 0, 0x02⟩
  | .getsym => ⟨0, false, false, 0, 0x03⟩
  | .sample im nz => ⟨0, false, nz, im.field, 0x04⟩
  | .sweep im nz pr => ⟨0, pr, nz, im.field, 0x05⟩
  | .iqpoint nz => ⟨0, false, nz, 0, 0x06⟩
  | .noise => ⟨0, false, false, 0, 0x07⟩
  | .window => ⟨0, false, false, 0, 0x08⟩
  | .fft => ⟨0, false, false, 0, 0x09⟩
  | .power => ⟨0, false, false, 0, 0x0A⟩
  | .dbscalar => ⟨0, false, false, 0, 0x0B⟩
  | .binmap => ⟨0, false, false, 0, 0x0C⟩
  | .spectrum nz => ⟨0, false, nz, 0, 0x0D⟩
  | .hover => ⟨0, false, false, 0, 0x0E⟩
  | .pack32 => ⟨0, false, false, 0, 0x0F⟩

/-- An instruction is well formed when the word that stands for it is legal (R103). The types of its
option fields already exclude what R103 refuses, so every instruction is. -/
def Instr.wellFormed (i : Instr) : Bool := i.fields.legal

end Sys2Proof
end

