-- ==== Sys2Proof/Decode.lean ====
section
/-!
DEFINITION. Decoding a command word (spec/30_encoding.md R105), total and rejecting by name, and the
encoder, both from the field layout of R101 and the opcode map of R102.
-/

namespace Sys2Proof

/-- Why a command word is refused (R104); each of them raises ILLEGAL (R103). -/
inductive DecodeError where
  /-- A 1 in bits 31:10. -/
  | reservedBits
  /-- An opcode `0x10` to `0x3F`. -/
  | reservedOpcode
  /-- A 1 in an option field the opcode does not accept. -/
  | optionNotAccepted
  /-- `IM = 3`. -/
  | reservedIndexMode
  /-- Fewer bytes than a command word holds (R100: one format, one length). -/
  | truncated
deriving DecidableEq, Repr

/-- The fields of a command word, at the bit positions of R101. -/
def CmdFields.ofWord (w : CmdWord) : CmdFields where
  reserved := w.extractLsb' 10 22
  pr := w.getLsbD 9
  nz := w.getLsbD 8
  im := w.extractLsb' 6 2
  opc := w.extractLsb' 0 6

/-- The word of the given fields, at the bit positions of R101. -/
def CmdFields.toWord (f : CmdFields) : CmdWord :=
  f.reserved ++ BitVec.ofBool f.pr ++ BitVec.ofBool f.nz ++ f.im ++ f.opc

/-- The instruction of legal fields, by the opcode map of R102. -/
def instrOfFields (f : CmdFields) : Except DecodeError Instr :=
  match IndexMode.ofField f.im with
  | none => .error .reservedIndexMode
  | some im =>
    match f.opc.toNat with
    | 0x00 => .ok .nop
    | 0x01 => .ok .sinc
    | 0x02 => .ok .rcos
    | 0x03 => .ok .getsym
    | 0x04 => .ok (.sample im f.nz)
    | 0x05 => .ok (.sweep im f.nz f.pr)
    | 0x06 => .ok (.iqpoint f.nz)
    | 0x07 => .ok .noise
    | 0x08 => .ok .window
    | 0x09 => .ok .fft
    | 0x0A => .ok .power
    | 0x0B => .ok .dbscalar
    | 0x0C => .ok .binmap
    | 0x0D => .ok (.spectrum f.nz)
    | 0x0E => .ok .hover
    | 0x0F => .ok .pack32
    | _ => .error .reservedOpcode

/-- Decoding, in the order of R105. -/
def decode (w : CmdWord) : Except DecodeError Instr :=
  let f := CmdFields.ofWord w
  if !f.reservedClear then .error .reservedBits
  else if !f.opcodeDefined then .error .reservedOpcode
  else if !f.optionsAccepted then .error .optionNotAccepted
  else if !f.indexModeDefined then .error .reservedIndexMode
  else instrOfFields f

/-- The command word of an instruction (R101, R102). -/
def encode (i : Instr) : CmdWord := i.fields.toWord

/-- The bytes of a command word as the bus carries them, least significant first
(spec/20_memory.md R72). -/
def commandBytes (w : CmdWord) : List Byte :=
  [w.extractLsb' 0 8, w.extractLsb' 8 8, w.extractLsb' 16 8, w.extractLsb' 24 8]

/-- Decoding the bytes of a CMD write: bits 31:0 are its first four bytes, and bits 63:32 are ignored
(spec/10_state.md R36). -/
def decodeBytes : List Byte → Except DecodeError Instr
  | b0 :: b1 :: b2 :: b3 :: _ => decode (b3 ++ b2 ++ b1 ++ b0)
  | _ => .error .truncated

/-- What the decoder reads from the table's bits `w` of a row of `nbits` bits, the bits above them 0. -/
def decodeTableWord (nbits w : Nat) : Option Instr :=
  match decodeBytes (commandBytes (BitVec.ofNat 32 (w % 2 ^ nbits))) with
  | .ok i => some i
  | .error _ => none

end Sys2Proof
end

