-- ==== Sys2Proof/Config.lean ====
section
/-!
DEFINITION. What an implementation of the block fixes (spec/00_scope.md R5) and the free values, the
opaque constants of everything the spec leaves open. No free value has a body: nothing in Lean can
evaluate one, so what is proved holds whatever the value is.
-/

namespace Sys2Proof

/-- The size parameters of R5, each in a type that holds exactly its legal values. `State.params`
carries them, so that a statement about every state holds for every legal instance of the block
(notes/assumptions/3.md). -/
structure Config.Params where
  /-- `N_MAX = 2^(10 + nMaxExp)`: a power of two with `1024 <= N_MAX <= 65536`. -/
  nMaxExp : Fin 7
  /-- `MSG_CAP = msgCapPred + 1`: `1 <= MSG_CAP <= 65536`. -/
  msgCapPred : Fin 65536
  /-- `RMAX = rMaxPred + 1`: `RMAX >= 1`. -/
  rMaxPred : Nat
  /-- The bits of `CENTER_FRAC`: the patterns below that of `1.0` are the binary64 values in `[0, 1)`. -/
  centerFracBits : Fin 0x3FF0000000000000
deriving DecidableEq, Repr

/-- `N_MAX` of R5: the capacity in elements of RE and IM. -/
def Config.Params.nMax (p : Config.Params) : Nat := 2 ^ (10 + p.nMaxExp.val)

/-- `MSG_CAP` of R5: the capacity in bytes of MSG. -/
def Config.Params.msgCap (p : Config.Params) : Nat := p.msgCapPred.val + 1

/-- `RMAX` of R5: the largest integer the uniform draw port delivers. -/
def Config.Params.rMax (p : Config.Params) : Nat := p.rMaxPred + 1

/-- `CENTER_FRAC` of R5 as a binary64 value. -/
def Config.Params.centerFrac (p : Config.Params) : F64 := BitVec.ofNat 64 p.centerFracBits.val

/-- The defaults of R5: `N_MAX = MSG_CAP = 65536`, `RMAX = 2^31 - 1`, `CENTER_FRAC = 0.5`. -/
def Config.Params.default : Config.Params where
  nMaxExp := 6
  msgCapPred := 65535
  rMaxPred := 2147483646
  centerFracBits := 0x3FE0000000000000

/-- `NUM.sin` of R5 and R14: a total function of its operand, nothing more is assumed. -/
opaque Config.sin : F64 → F64
/-- `NUM.cos` of R5 and R14. -/
opaque Config.cos : F64 → F64
/-- `NUM.ln` of R5 and R14. -/
opaque Config.ln : F64 → F64
/-- `NUM.log10` of R5 and R14. -/
opaque Config.log10 : F64 → F64
/-- `NUM.pow` of R5 and R14, `x` to the power `y`. -/
opaque Config.pow : F64 → F64 → F64

/-- The binary64 operations of R10 whose result can be a NaN. -/
inductive Config.FpOp where
  | add
  | sub
  | mul
  | div
  | sqrt
deriving DecidableEq, Repr

/-- The sign of the NaN an operation of R10 delivers: the spec says "NaN" and gives no bits
(notes/assumptions/5.md). `sqrt` takes its operand twice. -/
opaque Config.nanSign : Config.FpOp → F64 → F64 → Bool
/-- The fraction, less one, of that NaN: with `2^52 - 1` values every NaN pattern is reached. -/
opaque Config.nanFraction : Config.FpOp → F64 → F64 → Fin 4503599627370495

/-- The sign of `F32_NAN(v)` (R5, R13). -/
opaque Config.f32NanSign : F64 → Bool
/-- The fraction, less one, of `F32_NAN(v)`: with `2^23 - 1` values every binary32 NaN is reached. -/
opaque Config.f32NanFraction : F64 → Fin 8388607

/-- `floor` of an infinity or a NaN, which R13 leaves unstated (notes/assumptions/10.md). -/
opaque Config.floorOpen : F64 → Int

/-- The uniform draw port's sequence (spec/43_noise.md R200): draw `n` before it is brought into
`[0, RMAX]` (notes/assumptions/7.md). -/
opaque Config.draw : Nat → Nat

/-- The value a byte of MSG, RE, IM, PSD or XBUF holds after reset number `epoch`, at a bus address
(spec/70_reset_and_hazards.md R312, "any value"; notes/assumptions/8.md). -/
opaque Config.unwrittenByte (epoch addr : Nat) : Byte

end Sys2Proof
end

