-- ==== Sys2Proof/Machine/State.lean ====
section
/-!
DEFINITION. The state of the block as plain data (spec/10_state.md R30, R33): its registers, its five
memories as one list of written bytes, the draw port's position, and beside them the model's own
fields: the parameters, the number of resets, and the host's pending accesses and last response.
-/

namespace Sys2Proof.Machine

/-- The bytes of MSG, RE, IM, PSD and XBUF that have been written since the last reset, keyed by bus
address (spec/20_memory.md R71). An address that is not listed holds no written byte: reading it
gives a free value (notes/assumptions/8.md). -/
abbrev Memory := List Host.Cell

/-- The one canonical form of a memory: addresses strictly rising, so no address is listed twice. -/
abbrev Memory.wf (m : Memory) : Prop := m.Pairwise (fun x y => x.1 < y.1)

/-- The command errors and their codes (spec/60_exceptions.md R281). -/
inductive CmdError where
  | illegal
  | config
  | alloc
  | range
  | unsupported
  | nospec
deriving DecidableEq, Repr

/-- The access widths of `MemRead` and `MemWrite`: 1, 2, 4 or 8 bytes (spec/20_memory.md R72). -/
inductive AccessWidth where
  | b1
  | b2
  | b4
  | b8
deriving DecidableEq, Repr

/-- What the host does to the block: a bus access (spec/20_memory.md R72; of a written value the low
bytes of the width count), or asserting and releasing reset (spec/70_reset_and_hazards.md R310). -/
inductive HostAccess where
  | read (addr : Addr) (width : AccessWidth)
  | write (addr : Addr) (width : AccessWidth) (value : Word)
  | reset
deriving DecidableEq, Repr

/-- How the host's latest access completed: nothing yet, with data, as a write, as a bus error
(spec/60_exceptions.md R290), or with reset released. -/
inductive HostResponse where
  | idle
  | readData (value : Word)
  | writeDone
  | busError
  | resetDone
deriving DecidableEq, Repr

/-- The 28 registers of the register map (spec/10_state.md R33). -/
inductive RegName where
  | id | status | cmd | modcfg | amplitude | carrierFreq | symbolPeriod | rollOff | samplingRate | snrDb
  | fftSize | spectrumPower | centerFreq | span | timeOffset | msgLen | count | phase | arg0 | arg1 | arg2
  | argi | res0 | res1 | resi | maxDb | freqPerBin | binRange
deriving DecidableEq, Repr

/-- The state of the block. ID and CMD are hard-wired (R34, R36) and hold nothing; the registers with
reserved bits hold only the bits they implement, so that the reserved bits read 0 (R37, R44, R48,
R49, R51, R52, R78). -/
structure State where
  /-- The parameters of the instance (spec/00_scope.md R5); no step changes them. The model's own. -/
  params : Config.Params
  /-- STATUS.ERR (R35). -/
  err : Bool
  /-- STATUS.ECODE (R35). -/
  ecode : BitVec 4
  /-- STATUS.SPEC_VALID (R35, spec/44_spectral.md R241). -/
  specValid : Bool
  /-- MODCFG bits 8:0: BPS, WIN, MOD (R37). -/
  modcfg : BitVec 9
  /-- AMPLITUDE (R38). -/
  amplitude : F64
  /-- CARRIER_FREQ (R39). -/
  carrierFreq : F64
  /-- SYMBOL_PERIOD (R42). -/
  symbolPeriod : F64
  /-- ROLL_OFF (R40). -/
  rollOff : F64
  /-- SAMPLING_RATE (R41). -/
  samplingRate : F64
  /-- SNR_DB (R43). -/
  snrDb : F64
  /-- FFT_SIZE bits 31:0 (R44). -/
  fftSize : BitVec 32
  /-- SPECTRUM_POWER (R45). -/
  spectrumPower : F64
  /-- CENTER_FREQ (R46). -/
  centerFreq : F64
  /-- SPAN (R46). -/
  span : F64
  /-- TIME_OFFSET (R47). -/
  timeOffset : F64
  /-- MSG_LEN bits 31:0 (R48). -/
  msgLen : BitVec 32
  /-- COUNT bits 31:0 (R49). -/
  count : BitVec 32
  /-- PHASE, the FSK phase accumulator (R50). -/
  phase : F64
  /-- ARG0 (R51). -/
  arg0 : F64
  /-- ARG1 (R51). -/
  arg1 : F64
  /-- ARG2 (R51). -/
  arg2 : F64
  /-- ARGI bits 31:0 (R51). -/
  argi : BitVec 32
  /-- RES0 (R52). -/
  res0 : F64
  /-- RES1 (R52). -/
  res1 : F64
  /-- RESI bits 31:0 (R52). -/
  resi : BitVec 32
  /-- MAX_DB (R54). -/
  maxDb : F64
  /-- FREQ_PER_BIN (R54). -/
  freqPerBin : F64
  /-- BINRANGE: END_BIN in bits 63:32, START_BIN in bits 31:0 (R55). -/
  binRange : BitVec 64
  /-- The written bytes of MSG, RE, IM, PSD and XBUF (R56 to R59). -/
  mem : Memory
  /-- The uniform draw port's position in its sequence (R62). -/
  drawPos : Nat
  /-- How many resets there have been, which selects the free contents of unwritten memory
  (spec/70_reset_and_hazards.md R312). The model's own. -/
  resetCount : Nat
  /-- The accesses the host has still to make, the next first (R31: the host's "program"). The
  model's own (notes/assumptions/1.md). -/
  hostQueue : List HostAccess
  /-- How the latest access completed. The model's own (notes/assumptions/2.md). -/
  response : HostResponse
deriving DecidableEq, Repr

/-- The reasons a machine operation can fault. -/
inductive Fault where
  /-- A host access that is misaligned, of a width its region does not allow, or to an unmapped
  address (spec/20_memory.md R77). Raised by the bus operations; the block goes on, and `step`
  records it as the access's response and changes nothing else (spec/60_exceptions.md R290).
  Safe: the spec gives the whole effect. -/
  | busError
deriving DecidableEq, Repr

/-- The reasons a machine operation can be refused. -/
inductive Refusal where
  /-- An instruction that has no meaning yet. No arm of `exec` answers so. Safe. -/
  | notModelled (mnemonic : String)
deriving DecidableEq, Repr

/-- The block right after reset: every register at its value of R33 (spec/70_reset_and_hazards.md
R310), no byte of memory written (R312), idle (R311). The parameters are at the defaults of
spec/00_scope.md R5; the draw position and the number of resets start at 0 and no host access is
pending, the model's own values (DESIGN CHOICE, notes/assumptions/11.md). -/
def State.reset : State where
  params := Config.Params.default
  err := false
  ecode := 0
  specValid := false
  modcfg := 0
  amplitude := 0
  carrierFreq := 0
  symbolPeriod := 0
  rollOff := 0
  samplingRate := 0
  snrDb := 0
  fftSize := 0
  spectrumPower := 0
  centerFreq := 0
  span := 0
  timeOffset := 0
  msgLen := 0
  count := 0
  phase := 0
  arg0 := 0
  arg1 := 0
  arg2 := 0
  argi := 0
  res0 := 0
  res1 := 0
  resi := 0
  maxDb := 0
  freqPerBin := 0
  binRange := 0
  mem := []
  drawPos := 0
  resetCount := 0
  hostQueue := []
  response := .idle

end Sys2Proof.Machine
end

