-- ==== Sys2Proof/Machine/Flags.lean ====
section
/-!
DEFINITION. STATUS (spec/10_state.md R35): the error codes of spec/60_exceptions.md R281, the two
ways a command records its end (R283), and the register as the host reads it.
-/

namespace Sys2Proof.Machine

/-- The error codes of R281. -/
def CmdError.code : CmdError → BitVec 4
  | .illegal => 1
  | .config => 2
  | .alloc => 3
  | .range => 4
  | .unsupported => 5
  | .nospec => 6

/-- STATUS as the host reads it: ERR in bit 0, ECODE in 7:4, SPEC_VALID in bit 8, the rest 0 (R35). -/
def statusWord (s : State) : Word :=
  (0 : BitVec 55) ++ BitVec.ofBool s.specValid ++ s.ecode ++ (0 : BitVec 3) ++ BitVec.ofBool s.err

/-- A command that succeeds clears ERR and ECODE (R283). -/
def State.recordSuccess (s : State) : State := { s with err := false, ecode := 0 }

/-- A command that raises `e` sets ERR and records its code, and nothing else (R283, R285). -/
def State.recordError (s : State) (e : CmdError) : State := { s with err := true, ecode := e.code }

end Sys2Proof.Machine
end

