-- ==== Sys2Proof/Machine/Float.lean ====
section
/-!
DEFINITION. Binary64 arithmetic on raw bit patterns (spec/00_scope.md R9 to R13): one IEEE 754
operation rounded to nearest even at each call, subnormals kept, nothing fused. An exact result is an
integer times a power of two (and whether something nonzero lies below it), rounded once by
`roundCode`. The bits of a NaN result are free values (notes/assumptions/5.md).
-/

namespace Sys2Proof.Machine

/-! ### Constants (R11) and the literals of the rules -/

/-- `PI`. -/
def PI : F64 := 0x400921FB54442D18
/-- `TWO_PI`. -/
def TWO_PI : F64 := 0x401921FB54442D18
/-- `PI_4`. -/
def PI_4 : F64 := 0x3FE921FB54442D18
/-- `EPS9`, 1e-9. -/
def EPS9 : F64 := 0x3E112E0BE826D695
/-- `EPS12`, 1e-12. -/
def EPS12 : F64 := 0x3D719799812DEA11
/-- `C054`, 0.54. -/
def C054 : F64 := 0x3FE147AE147AE148
/-- `C046`, 0.46. -/
def C046 : F64 := 0x3FDD70A3D70A3D71
/-- `SNR_OFF`, 100.0. -/
def SNR_OFF : F64 := 0x4059000000000000
/-- `+0.0`. -/
def fZero : F64 := 0x0000000000000000
/-- `0.5`. -/
def fHalf : F64 := 0x3FE0000000000000
/-- `1.0`. -/
def fOne : F64 := 0x3FF0000000000000
/-- `2.0`. -/
def fTwo : F64 := 0x4000000000000000
/-- `-2.0`. -/
def fMinusTwo : F64 := 0xC000000000000000
/-- `4.0`. -/
def fFour : F64 := 0x4010000000000000
/-- `10.0`. -/
def fTen : F64 := 0x4024000000000000
/-- `+inf`. -/
def fPosInf : F64 := 0x7FF0000000000000
/-- `-inf`. -/
def fNegInf : F64 := 0xFFF0000000000000

/-! ### The parts of a binary64 pattern -/

/-- The sign bit. -/
def fSign (x : F64) : Bool := x.getLsbD 63

/-- The biased exponent field. -/
def fExpField (x : F64) : Nat := (x.extractLsb' 52 11).toNat

/-- The fraction field. -/
def fFraction (x : F64) : Nat := (x.extractLsb' 0 52).toNat

/-- All bits but the sign: ordered as the magnitudes are. -/
def fMagnitude (x : F64) : Nat := (x.extractLsb' 0 63).toNat

/-- `isNaN` (R12). -/
def isNaN (x : F64) : Bool := fExpField x == 2047 && fFraction x != 0

/-- `isInf` (R12). -/
def isInf (x : F64) : Bool := fExpField x == 2047 && fFraction x == 0

/-- `isFinite` (R12). -/
def isFinite (x : F64) : Bool := fExpField x != 2047

/-- A zero of either sign. -/
def isZero (x : F64) : Bool := fMagnitude x == 0

/-- The significand of a finite value, whose magnitude is `fSig x * 2 ^ fExp x`. -/
def fSig (x : F64) : Nat := if fExpField x = 0 then fFraction x else fFraction x + 2 ^ 52

/-- The exponent of a finite value's last significand bit. -/
def fExp (x : F64) : Int := if fExpField x = 0 then -1074 else (fExpField x : Int) - 1075

/-- The pattern with the given sign and magnitude bits. -/
def fPack (sign : Bool) (magnitude : Nat) : F64 := BitVec.ofBool sign ++ BitVec.ofNat 63 magnitude

/-- A binary64 NaN of the given sign and fraction `fraction + 1`. -/
def mkNaN (sign : Bool) (fraction : Nat) : F64 := fPack sign (0x7FF0000000000000 + (fraction + 1))

/-- The NaN an operation delivers: some NaN, the same one for the same operation and operands
(R10 says NaN and gives no bits, R15 says deterministic; DESIGN CHOICE, notes/assumptions/5.md). -/
def freeNaN (op : Config.FpOp) (a b : F64) : F64 :=
  mkNaN (Config.nanSign op a b) (Config.nanFraction op a b).val

/-! ### Rounding to nearest, ties to even -/

/-- A binary interchange format: fraction bits, the exponent of the least subnormal, and the magnitude
bits of infinity. -/
structure Format where
  fractionBits : Nat
  minExp : Int
  infCode : Nat
deriving DecidableEq, Repr

/-- binary64. -/
def binary64 : Format := ⟨52, -1074, 0x7FF0000000000000⟩

/-- binary32. -/
def binary32 : Format := ⟨23, -149, 0x7F800000⟩

/-- `m / 2^sh` rounded to the nearest integer, ties to even; `sticky` says that the true value lies
strictly between `m` and `m + 1`. -/
def roundShift (m sh : Nat) (sticky : Bool) : Nat :=
  let hi := m >>> sh
  let rem := m - (hi <<< sh)
  let half := (1 <<< sh) >>> 1
  if half < rem ∨ (half = rem ∧ sh ≠ 0 ∧ (sticky ∨ hi % 2 = 1)) then hi + 1 else hi

/-- The magnitude bits of the nearest representable value to `m * 2^e`, or to a value strictly between
`m * 2^e` and `(m + 1) * 2^e` when `sticky`; an overflow gives infinity. With `sticky`, `m` must have
more bits than the format keeps. A carry out of the significand runs into the exponent field, as the
encoding wants. -/
def roundCode (fmt : Format) (m : Nat) (e : Int) (sticky : Bool) : Nat :=
  if m = 0 then 0
  else
    let q := max (e + (m.log2 : Int) - (fmt.fractionBits : Int)) fmt.minExp
    let n := if q ≤ e then m <<< (e - q).toNat else roundShift m (q - e).toNat sticky
    min fmt.infCode (((q - fmt.minExp).toNat <<< fmt.fractionBits) + n)

/-- The binary64 value nearest to `± m * 2^e` (see `roundCode`). -/
def fRound (sign : Bool) (m : Nat) (e : Int) (sticky : Bool) : F64 :=
  fPack sign (roundCode binary64 m e sticky)

/-! ### The operations of R10 -/

/-- `-x`: flips the sign bit exactly. -/
def fneg (x : F64) : F64 := x ^^^ 0x8000000000000000

/-- `abs x`: clears the sign bit exactly. -/
def fabs (x : F64) : F64 := x &&& 0x7FFFFFFFFFFFFFFF

/-- `± m * 2^e` as an integer at the exponent `e' ≤ e`. -/
def scaledInt (sign : Bool) (m : Nat) (e e' : Int) : Int :=
  let v : Int := (m <<< (e - e').toNat : Nat)
  if sign then -v else v

/-- The sum of two values that are not NaN; `invalid` is the NaN of the sum of opposite infinities. An
exact zero is `+0.0` unless both operands are `-0.0`. -/
def faddWith (invalid a b : F64) : F64 :=
  if isInf a then
    if isInf b && fSign a != fSign b then invalid else a
  else if isInf b then b
  else
    let e := min (fExp a) (fExp b)
    let sum := scaledInt (fSign a) (fSig a) (fExp a) e + scaledInt (fSign b) (fSig b) (fExp b) e
    if sum = 0 then fPack (fSign a && fSign b) 0
    else fRound (decide (sum < 0)) sum.natAbs e false

/-- `a + b` (R10). -/
def fadd (a b : F64) : F64 :=
  if isNaN a || isNaN b then freeNaN .add a b else faddWith (freeNaN .add a b) a b

/-- `a - b` (R10). -/
def fsub (a b : F64) : F64 :=
  if isNaN a || isNaN b then freeNaN .sub a b else faddWith (freeNaN .sub a b) a (fneg b)

/-- `a * b` (R10). -/
def fmul (a b : F64) : F64 :=
  let sign := fSign a != fSign b
  if isNaN a || isNaN b then freeNaN .mul a b
  else if isInf a then if isZero b then freeNaN .mul a b else fPack sign 0x7FF0000000000000
  else if isInf b then if isZero a then freeNaN .mul a b else fPack sign 0x7FF0000000000000
  else fRound sign (fSig a * fSig b) (fExp a + fExp b) false

/-- `a / b` (R10). The 116 bits put before the quotient's point leave it with more bits than binary64
keeps, whatever the significands. -/
def fdiv (a b : F64) : F64 :=
  let sign := fSign a != fSign b
  if isNaN a || isNaN b then freeNaN .div a b
  else if isInf a then if isInf b then freeNaN .div a b else fPack sign 0x7FF0000000000000
  else if isInf b then fPack sign 0
  else if isZero b then if isZero a then freeNaN .div a b else fPack sign 0x7FF0000000000000
  else
    let num := fSig a <<< 116
    let quo := num / fSig b
    fRound sign quo (fExp a - fExp b - 116) (decide (quo * fSig b ≠ num))

/-- The largest `r` whose square is at most `n`, given that `r < root + 2^bits` and `root^2 ≤ n`: the
bits below `2^bits` are tried from the top. -/
def isqrtFrom (n : Nat) : Nat → Nat → Nat
  | 0, root => root
  | bits + 1, root =>
    let next := root + (1 <<< bits)
    if next * next ≤ n then isqrtFrom n bits next else isqrtFrom n bits root

/-- The integer square root of `n < 2^176`. -/
def isqrt (n : Nat) : Nat := isqrtFrom n 88 0

/-- The correctly rounded square root (R10). `sqrt(-0.0)` is `-0.0`; a negative operand gives NaN. -/
def fsqrt (x : F64) : F64 :=
  if isNaN x then freeNaN .sqrt x x
  else if isZero x then x
  else if fSign x then freeNaN .sqrt x x
  else if isInf x then x
  else
    let shift := 120 + (fExp x % 2).toNat
    let n := fSig x <<< shift
    let root := isqrt n
    fRound false root ((fExp x - (shift : Int)) >>> 1) (decide (root * root ≠ n))

/-! ### Comparisons (R12): false when an operand is a NaN, and `-0.0 == +0.0` -/

/-- An integer that orders the values that are not NaN. -/
def fKey (x : F64) : Int := if fSign x then -(fMagnitude x : Int) else (fMagnitude x : Int)

/-- `a < b`. -/
def flt (a b : F64) : Bool := !isNaN a && !isNaN b && decide (fKey a < fKey b)

/-- `a <= b`. -/
def fle (a b : F64) : Bool := !isNaN a && !isNaN b && decide (fKey a ≤ fKey b)

/-- `a == b`. -/
def feq (a b : F64) : Bool := !isNaN a && !isNaN b && decide (fKey a = fKey b)

/-! ### Conversions (R13) -/

/-- `f64(k)`, exact for `|k| <= 2^53`. Beyond it, where R13 states nothing, it is rounded to nearest
even (DESIGN CHOICE, notes/assumptions/13.md). -/
def ofInt (k : Int) : F64 := fRound (decide (k < 0)) k.natAbs 0 false

/-- `f64(k)` of a natural number. -/
def ofNat (k : Nat) : F64 := fRound false k 0 false

/-- `floor(x)`: exact for a finite value, and a free value otherwise (notes/assumptions/10.md). -/
def ffloor (x : F64) : Int :=
  if isFinite x then
    let v : Int := if fSign x then -(fSig x : Int) else (fSig x : Int)
    if 0 ≤ fExp x then v * ((1 <<< (fExp x).toNat : Nat) : Int) else v >>> (-fExp x).toNat
  else Config.floorOpen x

/-- `F32_NAN(v)` (R5): some binary32 NaN, the same for the same `v`. -/
def f32NaN (v : F64) : F32 :=
  BitVec.ofBool (Config.f32NanSign v) ++ BitVec.ofNat 31 (0x7F800000 + ((Config.f32NanFraction v).val + 1))

/-- `f32(v)`: round to nearest even, overflow to a signed infinity, the sign of zero kept, and
`F32_NAN(v)` for a NaN. -/
def toF32 (v : F64) : F32 :=
  if isNaN v then f32NaN v
  else if isInf v then BitVec.ofBool (fSign v) ++ BitVec.ofNat 31 0x7F800000
  else BitVec.ofBool (fSign v) ++ BitVec.ofNat 31 (roundCode binary32 (fSig v) (fExp v) false)

end Sys2Proof.Machine
end

