-- ==== Sys2Proof/Machine/Ops.lean ====
section
/-!
DEFINITION. The named operations over the state: the memories as bytes and as elements, the register
map, the host bus, the uniform draw port, the updates a command makes, raising a command error, and
the shape every command has: its checks in order, then its effect (spec/10_state.md, spec/20_memory.md,
spec/60_exceptions.md).
-/

namespace Sys2Proof.Machine

/-! ### Updates of one part of the state -/

/-- Writes RES0. -/
def State.setRes0 (s : State) (v : F64) : State := { s with res0 := v }

/-- Writes RES1. -/
def State.setRes1 (s : State) (v : F64) : State := { s with res1 := v }

/-- Writes RESI. -/
def State.setResi (s : State) (v : BitVec 32) : State := { s with resi := v }

/-- Writes PHASE. -/
def State.setPhase (s : State) (v : F64) : State := { s with phase := v }

/-- Replaces the contents of the memories. -/
def State.setMem (s : State) (m : Memory) : State := { s with mem := m }

/-- Moves the draw port to a later position. -/
def State.setDrawPos (s : State) (n : Nat) : State := { s with drawPos := n }

/-- Latches a spectral mapping and marks it valid (spec/44_spectral.md R236, R241). -/
def State.latchMapping (s : State) (fpb : F64) (range : BitVec 64) (mx : F64) : State :=
  { s with freqPerBin := fpb, binRange := range, maxDb := mx, specValid := true }

/-- Records how the host's access completed. -/
def State.respond (s : State) (r : HostResponse) : State := { s with response := r }

/-! ### Memory as bytes -/

/-- The byte last written at an address since reset, if any. -/
def Memory.lookup : Memory → Nat → Option Byte
  | [], _ => none
  | c :: m, a => if c.1 = a then some c.2 else Memory.lookup m a

/-- Writes one byte, keeping the addresses strictly rising. -/
def Memory.write : Memory → Nat → Byte → Memory
  | [], a, b => [(a, b)]
  | c :: m, a, b =>
    if a < c.1 then (a, b) :: c :: m
    else if a = c.1 then (a, b) :: m
    else c :: Memory.write m a b

/-- Writes a list of bytes at ascending addresses from `a`. -/
def Memory.writeBytes : Memory → Nat → List Byte → Memory
  | m, _, [] => m
  | m, a, b :: bs => Memory.writeBytes (Memory.write m a b) (a + 1) bs

/-- The byte at a bus address of a memory: the one last written, or, where none was since reset, the
free value reset left there (spec/70_reset_and_hazards.md R312; notes/assumptions/8.md). -/
def readByte (s : State) (a : Nat) : Byte :=
  (Memory.lookup s.mem a).getD (Config.unwrittenByte s.resetCount a)

/-- The `n` bytes from a bus address. -/
def readBytes (s : State) (a n : Nat) : List Byte := (List.range n).map (fun k => readByte s (a + k))

/-- The number whose bytes are given, least significant first (spec/20_memory.md R72, R73). -/
def leValue : List Byte → Nat
  | [] => 0
  | b :: bs => b.toNat + 256 * leValue bs

/-- The `n` low bytes of a number, least significant first (R72, R73). -/
def leBytes : Nat → Nat → List Byte
  | 0, _ => []
  | n + 1, v => BitVec.ofNat 8 v :: leBytes n (v / 256)

/-- `MemRead(addr, n)` of a memory (R72), in the low `8n` bits. -/
def memRead (s : State) (a n : Nat) : Word := BitVec.ofNat 64 (leValue (readBytes s a n))

/-- `MemWrite(addr, n, v)` of a memory (R72): the `n` low bytes of `v`. -/
def memWrite (s : State) (a n : Nat) (v : Word) : State :=
  s.setMem (Memory.writeBytes s.mem a (leBytes n v.toNat))

/-! ### The five memories and their elements (spec/20_memory.md R71) -/

/-- The regions of the address map. -/
inductive Region where
  | registers | msg | re | im | psd | xbuf
deriving DecidableEq, Repr

/-- The base address of a region (R71). -/
def Region.base : Region → Nat
  | .registers => 0x000000
  | .msg => 0x010000
  | .re => 0x100000
  | .im => 0x180000
  | .psd => 0x200000
  | .xbuf => 0x240000

/-- The size in bytes of a region's mapped part (R71). -/
def Region.size (p : Config.Params) : Region → Nat
  | .registers => 0xE0
  | .msg => p.msgCap
  | .re => 8 * p.nMax
  | .im => 8 * p.nMax
  | .psd => 8 * (p.nMax / 2)
  | .xbuf => 4 * p.nMax

/-- The address of element `i` of RE, IM or PSD (R71). -/
def Region.element (r : Region) (i : Nat) : Nat := r.base + 8 * i

/-- Element `i` of RE, IM or PSD: its 8 bytes, little-endian (R72). -/
def readElement (s : State) (r : Region) (i : Nat) : F64 := memRead s (r.element i) 8

/-- Elements `0 .. n - 1` of RE, IM or PSD. -/
def readElements (s : State) (r : Region) (n : Nat) : List F64 :=
  (List.range n).map (readElement s r)

/-- Writes `xs` to the elements of RE, IM or PSD from 0 on (R72). -/
def writeElements (s : State) (r : Region) (xs : List F64) : State :=
  s.setMem (Memory.writeBytes s.mem r.base (xs.flatMap (fun x => leBytes 8 x.toNat)))

/-- Byte `j` of the message memory (spec/10_state.md R56). -/
def msgByte (s : State) (j : Nat) : Byte := readByte s (Region.base .msg + j)

/-! ### The register map (spec/10_state.md R33) -/

/-- The offset of a register (R33). -/
def RegName.offset : RegName → Nat
  | .id => 0x000 | .status => 0x008 | .cmd => 0x010 | .modcfg => 0x018
  | .amplitude => 0x020 | .carrierFreq => 0x028 | .symbolPeriod => 0x030 | .rollOff => 0x038
  | .samplingRate => 0x040 | .snrDb => 0x048 | .fftSize => 0x050 | .spectrumPower => 0x058
  | .centerFreq => 0x060 | .span => 0x068 | .timeOffset => 0x070 | .msgLen => 0x078
  | .count => 0x080 | .phase => 0x088 | .arg0 => 0x090 | .arg1 => 0x098
  | .arg2 => 0x0A0 | .argi => 0x0A8 | .res0 => 0x0B0 | .res1 => 0x0B8
  | .resi => 0x0C0 | .maxDb => 0x0C8 | .freqPerBin => 0x0D0 | .binRange => 0x0D8

/-- The registers in the order of the register map. -/
def RegName.all : List RegName :=
  [.id, .status, .cmd, .modcfg, .amplitude, .carrierFreq, .symbolPeriod, .rollOff, .samplingRate, .snrDb,
   .fftSize, .spectrumPower, .centerFreq, .span, .timeOffset, .msgLen, .count, .phase, .arg0, .arg1, .arg2,
   .argi, .res0, .res1, .resi, .maxDb, .freqPerBin, .binRange]

/-- The register at an offset, if one stands there (R33; the offsets `0x0E0` to `0x0FF` hold none). -/
def RegName.ofOffset (a : Nat) : Option RegName := RegName.all.find? (fun r => r.offset == a)

/-- The constant of ID (R34). -/
def idWord : Word := 0x5347565A00070001

/-- A host read of a register (R33 to R55): reserved bits read 0, and so does CMD (R36). -/
def readReg (r : RegName) (s : State) : Word :=
  match r with
  | .id => idWord
  | .status => statusWord s
  | .cmd => 0
  | .modcfg => s.modcfg.setWidth 64
  | .amplitude => s.amplitude
  | .carrierFreq => s.carrierFreq
  | .symbolPeriod => s.symbolPeriod
  | .rollOff => s.rollOff
  | .samplingRate => s.samplingRate
  | .snrDb => s.snrDb
  | .fftSize => s.fftSize.setWidth 64
  | .spectrumPower => s.spectrumPower
  | .centerFreq => s.centerFreq
  | .span => s.span
  | .timeOffset => s.timeOffset
  | .msgLen => s.msgLen.setWidth 64
  | .count => s.count.setWidth 64
  | .phase => s.phase
  | .arg0 => s.arg0
  | .arg1 => s.arg1
  | .arg2 => s.arg2
  | .argi => s.argi.setWidth 64
  | .res0 => s.res0
  | .res1 => s.res1
  | .resi => s.resi.setWidth 64
  | .maxDb => s.maxDb
  | .freqPerBin => s.freqPerBin
  | .binRange => s.binRange

/-- A host write of a register other than CMD: RW registers store the bits they implement, and a write
to an RO register is ignored (R33, spec/20_memory.md R78). What a write to CMD does is the command's,
in Machine/Bus.lean; it stores nothing (R36). -/
def writeReg (r : RegName) (v : Word) (s : State) : State :=
  match r with
  | .modcfg => { s with modcfg := v.setWidth 9 }
  | .amplitude => { s with amplitude := v }
  | .carrierFreq => { s with carrierFreq := v }
  | .symbolPeriod => { s with symbolPeriod := v }
  | .rollOff => { s with rollOff := v }
  | .samplingRate => { s with samplingRate := v }
  | .snrDb => { s with snrDb := v }
  | .fftSize => { s with fftSize := v.setWidth 32 }
  | .spectrumPower => { s with spectrumPower := v }
  | .centerFreq => { s with centerFreq := v }
  | .span => { s with span := v }
  | .timeOffset => { s with timeOffset := v }
  | .msgLen => { s with msgLen := v.setWidth 32 }
  | .count => { s with count := v.setWidth 32 }
  | .phase => { s with phase := v }
  | .arg0 => { s with arg0 := v }
  | .arg1 => { s with arg1 := v }
  | .arg2 => { s with arg2 := v }
  | .argi => { s with argi := v.setWidth 32 }
  | .id | .status | .cmd | .res0 | .res1 | .resi | .maxDb | .freqPerBin | .binRange => s

/-! ### The host bus (spec/20_memory.md) -/

/-- The bytes of an access width (R72). -/
def AccessWidth.bytes : AccessWidth → Nat
  | .b1 => 1
  | .b2 => 2
  | .b4 => 4
  | .b8 => 8

/-- The widths a region takes: registers only 8 bytes, memories all four (R75). -/
def Region.admits : Region → AccessWidth → Bool
  | .registers, w => w == .b8
  | _, _ => true

/-- The region whose mapped part holds all `n` bytes at `a`, if there is one (R71, R76). -/
def Region.holding (p : Config.Params) (a n : Nat) : Option Region :=
  [Region.registers, .msg, .re, .im, .psd, .xbuf].find?
    (fun r => decide (r.base ≤ a) && decide (a + n ≤ r.base + r.size p))

/-- The region an access goes to, or the bus error of a misaligned, unmapped or wrong-width access
(R75 to R77). -/
def busTarget (p : Config.Params) (addr : Addr) (w : AccessWidth) : Except Fault Region :=
  if addr.toNat % w.bytes ≠ 0 then .error .busError
  else
    match Region.holding p addr.toNat w.bytes with
    | none => .error .busError
    | some r => if r.admits w then .ok r else .error .busError

/-- A host read: the data, or a bus error (R72, R77). It changes nothing (R78). -/
def busRead (s : State) (addr : Addr) (w : AccessWidth) : Except Fault Word :=
  match busTarget s.params addr w with
  | .error f => .error f
  | .ok .registers =>
    match RegName.ofOffset addr.toNat with
    | some r => .ok (readReg r s)
    | none => .error .busError
  | .ok _ => .ok (memRead s addr.toNat w.bytes)

/-! ### The uniform draw port (spec/43_noise.md R200) -/

/-- `UniformDraw()` at a position of the sequence: a free integer in `[0, RMAX]`. -/
def uniformDraw (s : State) (pos : Nat) : Nat := Config.draw pos % (s.params.rMax + 1)

/-! ### Reset (spec/70_reset_and_hazards.md) -/

/-- Asserting and releasing reset: every register at its reset value (R310), the memories at new
unspecified contents (R312), the draw port and the host's own plans as they were (R313; DESIGN
CHOICE, notes/assumptions/9.md). -/
def resetBlock (s : State) : State :=
  { State.reset with
    params := s.params
    drawPos := s.drawPos
    resetCount := s.resetCount + 1
    hostQueue := s.hostQueue
    response := s.response }

/-! ### How a command ends (spec/60_exceptions.md R283) -/

/-- `raise E()`: the block's whole exception entry. The error is recorded in STATUS and nothing else
happens; there is no handler to go to and none to return from (R286). -/
def raise (e : CmdError) (s : State) : Host.Outcome State Fault Refusal := .next (s.recordError e)

/-- The error of the first check that fails. Listed in the order of R284, that is the error recorded. -/
def firstFailure : List (Bool × CmdError) → Option CmdError
  | [] => none
  | (holds, e) :: rest => if holds then firstFailure rest else some e

/-- A command: every check is made before the first write (R283), a failed one is raised, and
otherwise the effect happens and success is recorded. -/
def guarded (checks : List (Bool × CmdError)) (effect : State → State) (s : State) :
    Host.Outcome State Fault Refusal :=
  match firstFailure checks with
  | some e => raise e s
  | none => .next (effect s).recordSuccess

end Sys2Proof.Machine
end

