-- ==== Sys2Proof/Machine/Operands.lean ====
section
/-!
DEFINITION. What the commands read from the configuration registers: their fields and the validity
predicates of spec/10_state.md R53.
-/

namespace Sys2Proof.Machine

/-- The modulation kinds of MODCFG.MOD (spec/10_state.md R37); `reserved` is illegal at use. -/
inductive ModKind where
  | ask
  | fsk
  | psk
  | reserved
deriving DecidableEq, Repr

/-- The windows of MODCFG.WIN (R37); `reserved` is illegal at use. -/
inductive WinKind where
  | rectangular
  | hann
  | hamming
  | reserved
deriving DecidableEq, Repr

/-- MODCFG.MOD, bits 1:0 (R37). -/
def modKind (s : State) : ModKind :=
  match (s.modcfg.extractLsb' 0 2).toNat with
  | 0 => .ask
  | 1 => .fsk
  | 2 => .psk
  | _ => .reserved

/-- MODCFG.WIN, bits 3:2 (R37). -/
def winKind (s : State) : WinKind :=
  match (s.modcfg.extractLsb' 2 2).toNat with
  | 0 => .rectangular
  | 1 => .hann
  | 2 => .hamming
  | _ => .reserved

/-- MODCFG.BPS, bits 8:4: the bits per symbol `b` (R37). -/
def bitsPerSymbol (s : State) : Nat := (s.modcfg.extractLsb' 4 5).toNat

/-- The alphabet size `M = 2^b` (spec/00_scope.md R16). -/
def alphabetSize (s : State) : Nat := 2 ^ bitsPerSymbol s

/-- `N`, the FFT size (R44). -/
def fftLength (s : State) : Nat := s.fftSize.toNat

/-- `half = N div 2` (spec/44_spectral.md). -/
def halfLength (s : State) : Nat := fftLength s / 2

/-- Finite and `>= 0`: the legality of AMPLITUDE (R38). -/
def amplitudeOk (s : State) : Bool := isFinite s.amplitude && fle fZero s.amplitude

/-- Finite and `> 0`: the legality of CARRIER_FREQ, SAMPLING_RATE and SYMBOL_PERIOD (R39, R41, R42). -/
def positiveFinite (x : F64) : Bool := isFinite x && flt fZero x

/-- `0 <= beta <= 1`: the legality of ROLL_OFF (R40). -/
def rollOffOk (s : State) : Bool := fle fZero s.rollOff && fle s.rollOff fOne

/-- Neither NaN nor `-inf`: the legality of SNR_DB where noise is requested (R43). -/
def snrOk (s : State) : Bool := !isNaN s.snrDb && s.snrDb != fNegInf

/-- `V_BPS` (R53). -/
def vBps (s : State) : Bool :=
  decide (1 ≤ bitsPerSymbol s) && decide (bitsPerSymbol s ≤ 16) && decide (s.msgLen.toNat ≤ s.params.msgCap)

/-- `V_MOD` (R53). -/
def vMod (s : State) : Bool := modKind s != .reserved && vBps s

/-- `V_SYN` (R53). It checks SAMPLING_RATE whatever MOD is (notes/assumptions/14.md). -/
def vSyn (s : State) : Bool :=
  vMod s && amplitudeOk s && positiveFinite s.carrierFreq && rollOffOk s && positiveFinite s.symbolPeriod
    && positiveFinite s.samplingRate

/-- `V_NOISE` (R53). -/
def vNoise (s : State) : Bool := amplitudeOk s && snrOk s

/-- The CONFIG half of `V_FFTSZ`: a power of two and at least 2 (R53, spec/44_spectral.md R220). -/
def vFftPow2 (s : State) : Bool :=
  !(decide (fftLength s = 0) || decide (fftLength s &&& (fftLength s - 1) ≠ 0) || decide (fftLength s = 1))

/-- The ALLOC half of `V_FFTSZ`: at most `N_MAX` (R53, R220). -/
def vFftCap (s : State) : Bool := decide (fftLength s ≤ s.params.nMax)

/-- `V_WIN` (R53). -/
def vWin (s : State) : Bool := winKind s != .reserved

/-- `V_POW` (R53, R45). -/
def vPow (s : State) : Bool := isFinite s.spectrumPower && fle fOne s.spectrumPower

/-- `V_MAP` (R53). -/
def vMap (s : State) : Bool :=
  positiveFinite s.samplingRate && isFinite s.centerFreq && isFinite s.span

/-- `COUNT <= N_MAX` (R49). -/
def vCount (s : State) : Bool := decide (s.count.toNat ≤ s.params.nMax)

end Sys2Proof.Machine
end

