-- ==== Sys2Proof/Machine/Export.lean ====
section
/-!
DEFINITION. The export packer and control (spec/45_export_control.md): PACK32 and NOP.
-/

namespace Sys2Proof.Machine

/-- The bytes of the export format: each sample narrowed to binary32, least significant byte first (R270). -/
def packBytes (xs : List F64) : List Byte := xs.flatMap (fun x => leBytes 4 (toF32 x).toNat)

/-- PACK32 (R271). -/
def execPack32 (s : State) : Host.Outcome State Fault Refusal :=
  guarded [(vCount s, .alloc)]
    (fun s =>
      s.setMem (Memory.writeBytes s.mem (Region.base .xbuf) (packBytes (readElements s .re s.count.toNat)))) s

/-- NOP (R273): nothing but the record of success. -/
def execNop (s : State) : Host.Outcome State Fault Refusal := guarded [] (fun s => s) s

end Sys2Proof.Machine
end

