-- ==== Sys2Proof/Machine/Codec.lean ====
section
/-!
DEFINITION. The symbol codec (spec/40_symbol_codec.md): the message as a bitstream, symbols, the total
symbol count, the index modes, and GETSYM.
-/

namespace Sys2Proof.Machine

/-- Bit `k` of the message, most significant bit first within a byte; 0 past its end (R130). -/
def bitAt (s : State) (k : Nat) : Nat :=
  if k / 8 < s.msgLen.toNat then ((msgByte s (k / 8)).toNat >>> (7 - k % 8)) % 2 else 0

/-- Symbol `j` of `b` bits, first bit most significant; 0 past the end (R131). -/
def symbolAt (s : State) (j b : Nat) : Nat :=
  if s.msgLen.toNat ≤ j * b / 8 then 0
  else (List.range b).foldl (fun v q => 2 * v + bitAt s (j * b + q)) 0

/-- `NSYM`, the total symbol count (R132). -/
def symbolCount (s : State) : Nat := (8 * s.msgLen.toNat + bitsPerSymbol s - 1) / bitsPerSymbol s

/-- The message index of a symbol index, or none where it is skipped (R133). -/
def resolve (s : State) (k : Int) : IndexMode → Option Nat
  | .skipneg => if k < 0 then none else some k.toNat
  | .bounded => if k < 0 ∨ (symbolCount s : Int) ≤ k then none else some k.toNat
  | .wrap => some (k % (symbolCount s : Int)).toNat

/-- GETSYM (R134). -/
def execGetsym (s : State) : Host.Outcome State Fault Refusal :=
  guarded [(vBps s, .config)]
    (fun s => s.setResi (BitVec.ofNat 32 (symbolAt s s.argi.toNat (bitsPerSymbol s)))) s

end Sys2Proof.Machine
end

