-- ==== Sys2Proof/Machine/Noise.lean ====
section
/-!
DEFINITION. The Box-Muller Gaussian noise generator (spec/43_noise.md): uniform draws, one Gaussian
value, the noise of a sample and of a constellation point, and NOISE. A function that draws takes the
draw port's position and answers the position after its draws (R202).
-/

namespace Sys2Proof.Machine

/-- The uniform value of the draw at a position, in `(0, 1]` (R200). -/
def uniform (s : State) (pos : Nat) : F64 :=
  fdiv (fadd (ofNat (uniformDraw s pos)) fOne) (fadd (ofNat s.params.rMax) fOne)

/-- One Gaussian value, from the two draws at a position, `u1` then `u2` (R201). -/
def gauss (s : State) (pos : Nat) : F64 :=
  fmul (fsqrt (fmul fMinusTwo (Config.ln (uniform s pos)))) (Config.cos (fmul TWO_PI (uniform s (pos + 1))))

/-- Noise is on when `SNR_DB < 100.0` (R203). -/
def noiseOn (s : State) : Bool := flt s.snrDb SNR_OFF

/-- `snrLinear = 10^(snrDb/10)` (R204, R205). -/
def snrLinear (s : State) : F64 := Config.pow fTen (fdiv s.snrDb fTen)

/-- The standard deviation of the noise of a sample (R204). -/
def sampleNoiseSd (s : State) : F64 := fsqrt (fdiv (fdiv (fmul s.amplitude s.amplitude) fTwo) (snrLinear s))

/-- The standard deviation of the noise of one channel of a constellation point (R205). -/
def iqNoiseSd (s : State) : F64 := fsqrt (fdiv fHalf (snrLinear s))

/-- `addNoise(y)` (R204). -/
def addNoise (s : State) (y : F64) (pos : Nat) : F64 × Nat :=
  if noiseOn s then (fadd y (fmul (gauss s pos) (sampleNoiseSd s)), pos + 2) else (y, pos)

/-- `y`, with noise added where the command's NZ bit asks for it (R203). -/
def withNoise (s : State) (nz : Bool) (y : F64) (pos : Nat) : F64 × Nat :=
  if nz then addNoise s y pos else (y, pos)

/-- `addIqNoise(I, Q)`: draws 1 and 2 for I, 3 and 4 for Q (R205). -/
def addIqNoise (s : State) (p : F64 × F64) (pos : Nat) : (F64 × F64) × Nat :=
  if noiseOn s then
    ((fadd p.1 (fmul (gauss s pos) (iqNoiseSd s)), fadd p.2 (fmul (gauss s (pos + 2)) (iqNoiseSd s))), pos + 4)
  else (p, pos)

/-- NOISE (R206). With noise off, `addNoise(+0.0)` is the `+0.0` without a draw that R206 gives. -/
def execNoise (s : State) : Host.Outcome State Fault Refusal :=
  guarded [(vNoise s, .config)]
    (fun s =>
      let r := addNoise s fZero s.drawPos
      (s.setRes0 r.1).setDrawPos r.2) s

end Sys2Proof.Machine
end

