-- ==== Sys2Proof/Machine/Pulse.lean ====
section
/-!
DEFINITION. The pulse shaper (spec/41_pulse_shaper.md): the sinc primitive, the raised-cosine kernel,
SINC and RCOS.
-/

namespace Sys2Proof.Machine

/-- The sinc function (R140). -/
def sincf (x : F64) : F64 :=
  if flt (fabs x) EPS9 then fOne
  else
    let px := fmul PI x
    fdiv (Config.sin px) px

/-- The raised-cosine function: its branches Z, C, S and G, tried in that order (R142). -/
def rcos (t ts beta : F64) : F64 :=
  if flt (fmul fFour ts) (fabs t) then fZero
  else if flt (fabs t) EPS9 then fOne
  else
    let x := fdiv t ts
    let u := fmul (fmul fTwo beta) x
    if flt EPS9 beta && flt (fabs (fsub (fabs u) fOne)) EPS9 then
      fmul PI_4 (sincf (fdiv fOne (fmul fTwo beta)))
    else fmul (sincf x) (fdiv (Config.cos (fmul (fmul PI beta) x)) (fsub fOne (fmul u u)))

/-- SINC (R141). -/
def execSinc (s : State) : Host.Outcome State Fault Refusal :=
  guarded [] (fun s => s.setRes0 (sincf s.arg0)) s

/-- RCOS (R143). -/
def execRcos (s : State) : Host.Outcome State Fault Refusal :=
  guarded [] (fun s => s.setRes0 (rcos s.arg0 s.arg1 s.arg2)) s

end Sys2Proof.Machine
end

