-- ==== Sys2Proof/Machine/Synth.lean ====
section
/-!
DEFINITION. The waveform synthesizer (spec/42_synthesizer.md): the ASK, PSK and FSK kernels, blocks of
consecutive samples, and SAMPLE, SWEEP and IQPOINT.
-/

namespace Sys2Proof.Machine

/-! ### Shared pieces -/

/-- The current symbol index of a time (R160). It is used only where `symIndexOk` holds. -/
def symIndex (s : State) (t : F64) : Int := ffloor (fdiv t s.symbolPeriod)

/-- Whether `symIndex` of a time raises no RANGE (R160). -/
def symIndexOk (s : State) (t : F64) : Bool :=
  isFinite (fdiv t s.symbolPeriod)
    && decide (-2147483644 ≤ symIndex s t) && decide (symIndex s t ≤ 2147483643)

/-- The centre time of symbol `k`, the unwrapped index (R161). -/
def centre (s : State) (k : Int) : F64 := fmul (fadd (ofInt k) s.params.centerFrac) s.symbolPeriod

/-- `HALF_WIDTH` (R162). -/
def HALF_WIDTH : Nat := 4

/-- The symbol indices around `kc`, ascending: `kc - 4` to `kc + 4` (R162). -/
def nearbyIndices (kc : Int) : List Int :=
  (List.range (2 * HALF_WIDTH + 1)).map (fun (i : Nat) => kc - (HALF_WIDTH : Int) + (i : Int))

/-- The symbol value and the pulse weight of each symbol around the time `t` that is not skipped, in
ascending order of its index (R162). -/
def pulseTerms (s : State) (t : F64) (im : IndexMode) : List (Nat × F64) :=
  (nearbyIndices (symIndex s t)).filterMap (fun k =>
    (resolve s k im).map (fun j =>
      (symbolAt s j (bitsPerSymbol s), rcos (fsub t (centre s k)) s.symbolPeriod s.rollOff)))

/-! ### The three kernels -/

/-- The ASK impulse weight of a symbol value (R163). -/
def askWeight (s : State) (sym : Nat) : F64 :=
  if alphabetSize s = 1 then ofNat sym else fdiv (ofNat sym) (ofNat (alphabetSize s - 1))

/-- The ASK kernel (R164). -/
def askSample (s : State) (t : F64) (im : IndexMode) : F64 :=
  let env := (pulseTerms s t im).foldl (fun env (sw : Nat × F64) => fadd env (fmul (askWeight s sw.1) sw.2)) fZero
  fmul (fmul s.amplitude env) (Config.sin (fmul (fmul TWO_PI s.carrierFreq) t))

/-- The PSK constellation angle of a symbol value (R165). -/
def pskAngle (s : State) (sym : Nat) : F64 :=
  let a := fdiv (fmul TWO_PI (ofNat sym)) (ofNat (alphabetSize s))
  if alphabetSize s = 4 then fadd a PI_4 else a

/-- The PSK kernel (R165). -/
def pskSample (s : State) (t : F64) (im : IndexMode) : F64 :=
  let iq := (pulseTerms s t im).foldl
    (fun (iq : F64 × F64) (sw : Nat × F64) =>
      let a := pskAngle s sw.1
      (fadd iq.1 (fmul sw.2 (Config.cos a)), fadd iq.2 (fmul sw.2 (Config.sin a))))
    (fZero, fZero)
  let phi := fmul (fmul TWO_PI s.carrierFreq) t
  fmul s.amplitude (fsub (fmul iq.1 (Config.cos phi)) (fmul iq.2 (Config.sin phi)))

/-- The FSK phase after the sample at time `t` (R166). -/
def fskPhase (s : State) (t : F64) (im : IndexMode) (ph : F64) : F64 :=
  let sym := match resolve s (symIndex s t) im with
    | none => 0
    | some j => symbolAt s j (bitsPerSymbol s)
  let f := fadd s.carrierFreq (fmul (ofNat sym) (fdiv s.carrierFreq fTwo))
  fadd ph (fdiv (fmul TWO_PI f) s.samplingRate)

/-- The FSK kernel: the sample and the advanced phase (R166). -/
def fskSample (s : State) (t : F64) (im : IndexMode) (ph : F64) : F64 × F64 :=
  let ph' := fskPhase s t im ph
  (fmul s.amplitude (Config.sin ph'), ph')

/-- WRAP mode with an empty message: silence, and no symbol index is computed (R167). -/
def silent (s : State) (im : IndexMode) : Bool := im == .wrap && symbolCount s == 0

/-- The sample function: the sample at a time and the FSK phase after it (R167). A reserved MOD fails
`V_MOD` before any sample is computed. -/
def synth (s : State) (t : F64) (im : IndexMode) (ph : F64) : F64 × F64 :=
  if silent s im then (fZero, ph)
  else
    match modKind s with
    | .ask => (askSample s t im, ph)
    | .psk => (pskSample s t im, ph)
    | .fsk => fskSample s t im ph
    | .reserved => (fZero, ph)

/-! ### Blocks of samples -/

/-- The times `t0 + f64(i) / fs` of `n` consecutive samples (R169, spec/44_spectral.md R240). -/
def sampleTimes (s : State) (t0 : F64) (n : Nat) : List F64 :=
  (List.range n).map (fun i => fadd t0 (fdiv (ofNat i) s.samplingRate))

/-- Whether no sample of the given times raises RANGE (R160, R170, spec/44_spectral.md R239). -/
def timesInRange (s : State) (im : IndexMode) (ts : List F64) : Bool :=
  silent s im || ts.all (symIndexOk s)

/-- What a block of samples produces. -/
structure SampleBlock where
  samples : List F64
  /-- The FSK phase after the last sample. -/
  phase : F64
  /-- The draw port's position after the last draw. -/
  drawPos : Nat
deriving DecidableEq, Repr

/-- The samples at the given times in order, the FSK phase and the draws threaded through them (R170). -/
def synthBlock (s : State) (im : IndexMode) (nz : Bool) : List F64 → F64 → Nat → SampleBlock
  | [], ph, pos => ⟨[], ph, pos⟩
  | t :: ts, ph, pos =>
    let y := synth s t im ph
    let z := withNoise s nz y.1 pos
    let rest := synthBlock s im nz ts y.2 z.2
    ⟨z.1 :: rest.samples, rest.phase, rest.drawPos⟩

/-! ### Commands -/

/-- SAMPLE (R168). -/
def execSample (im : IndexMode) (nz : Bool) (s : State) : Host.Outcome State Fault Refusal :=
  guarded
    [(vSyn s, .config), (!nz || vNoise s, .config), (timesInRange s im [s.arg0], .range)]
    (fun s =>
      let y := synth s s.arg0 im s.phase
      let z := withNoise s nz y.1 s.drawPos
      let t := (s.setRes0 z.1).setDrawPos z.2
      if modKind s = .fsk then t.setPhase y.2 else t) s

/-- SWEEP (R170). -/
def execSweep (im : IndexMode) (nz pr : Bool) (s : State) : Host.Outcome State Fault Refusal :=
  guarded
    [(vSyn s, .config), (!nz || vNoise s, .config), (vCount s, .alloc),
     (timesInRange s im (sampleTimes s s.arg0 s.count.toNat), .range)]
    (fun s =>
      let ph := if pr then fZero else s.phase
      let b := synthBlock s im nz (sampleTimes s s.arg0 s.count.toNat) ph s.drawPos
      let t := (writeElements s .re b.samples).setDrawPos b.drawPos
      if modKind s = .fsk then t.setPhase b.phase
      else if pr then t.setPhase fZero
      else t) s

/-- The constellation point of a symbol value (R172). -/
def iqPoint (s : State) (sym : Nat) : F64 × F64 :=
  (Config.cos (pskAngle s sym), Config.sin (pskAngle s sym))

/-- IQPOINT (R173). -/
def execIqpoint (nz : Bool) (s : State) : Host.Outcome State Fault Refusal :=
  guarded
    [(vMod s, .config), (!nz || snrOk s, .config), (modKind s == .psk, .unsupported)]
    (fun s =>
      let p := iqPoint s (symbolAt s s.argi.toNat (bitsPerSymbol s))
      let r := if nz then addIqNoise s p s.drawPos else (p, s.drawPos)
      ((s.setRes0 r.1.1).setRes1 r.1.2).setDrawPos r.2) s

end Sys2Proof.Machine
end

