-- ==== Sys2Proof/Machine/Spectral.lean ====
section
/-!
DEFINITION. The spectral estimator (spec/44_spectral.md): windows, the radix-2 FFT, the dB scalar, the
frequency mapping and peak, the hover query, and the commands WINDOW, FFT, POWER, DBSCALAR, BINMAP,
SPECTRUM and HOVER. SPECTRUM's steps 3 to 6 are the effects of FFT, POWER and BINMAP.
-/

namespace Sys2Proof.Machine

/-! ### Windowing (step 2) -/

/-- The window angle `theta` of sample `i` (R221). -/
def winAngle (s : State) (i : Nat) : F64 :=
  fdiv (fmul TWO_PI (ofNat i)) (ofNat (fftLength s - 1))

/-- The window weight of sample `i` (R221). A reserved WIN fails `V_WIN` before any weight is computed. -/
def winWeight (s : State) (i : Nat) : F64 :=
  match winKind s with
  | .rectangular => fOne
  | .hann => fmul fHalf (fsub fOne (Config.cos (winAngle s i)))
  | .hamming => fsub C054 (fmul C046 (Config.cos (winAngle s i)))
  | .reserved => fOne

/-- Samples multiplied by their window weights (R222, R244). -/
def applyWindow (s : State) (xs : List F64) : List F64 :=
  xs.mapIdx (fun i x => fmul x (winWeight s i))

/-- RE and IM after step 2: the windowed samples, and `+0.0` (R222, R244). -/
def windowInto (s : State) (xs : List F64) : State :=
  writeElements (writeElements s .im (List.replicate xs.length fZero)) .re (applyWindow s xs)

/-! ### Transform (step 3) -/

/-- `rev(i)`: the `m` low bits of `i` in reverse order (R223). -/
def bitRev : Nat → Nat → Nat
  | 0, _ => 0
  | m + 1, i => (i % 2) <<< m + bitRev m (i / 2)

/-- Element `i` of a complex buffer. -/
def cget (xs : List (F64 × F64)) (i : Nat) : F64 × F64 := xs.getD i (fZero, fZero)

/-- One step of the bit-reversal permutation: elements `i` and `rev(i)` change places if `i < rev(i)`
(R223). -/
def bitRevSwap (m : Nat) (xs : List (F64 × F64)) (i : Nat) : List (F64 × F64) :=
  if i < bitRev m i then (xs.set i (cget xs (bitRev m i))).set (bitRev m i) (cget xs i) else xs

/-- The bit-reversal permutation of `2^m` elements (R223). -/
def bitReverse (m : Nat) (xs : List (F64 × F64)) : List (F64 × F64) :=
  (List.range (2 ^ m)).foldl (bitRevSwap m) xs

/-- The twiddle factor `(wr, wi)` (R225). -/
def twiddle (j len : Nat) : F64 × F64 :=
  let theta := fneg (fdiv (fmul TWO_PI (ofNat j)) (ofNat len))
  (Config.cos theta, Config.sin theta)

/-- One butterfly of elements `p` and `q` with a twiddle factor (R224). -/
def butterfly (w : F64 × F64) (p q : Nat) (xs : List (F64 × F64)) : List (F64 × F64) :=
  let a := cget xs p
  let b := cget xs q
  let xr := fsub (fmul b.1 w.1) (fmul b.2 w.2)
  let xi := fadd (fmul b.1 w.2) (fmul b.2 w.1)
  (xs.set q (fsub a.1 xr, fsub a.2 xi)).set p (fadd a.1 xr, fadd a.2 xi)

/-- The butterflies of the block at `base`, `j` ascending (R224). -/
def butterflyBlock (len base : Nat) (xs : List (F64 × F64)) : List (F64 × F64) :=
  (List.range (len / 2)).foldl
    (fun xs j => butterfly (twiddle j len) (base + j) (base + j + len / 2) xs) xs

/-- The stage of length `len` over `n` elements, blocks ascending (R224). -/
def butterflyStage (n len : Nat) (xs : List (F64 × F64)) : List (F64 × F64) :=
  (List.range (n / len)).foldl (fun xs k => butterflyBlock len (k * len) xs) xs

/-- The stages of length 2, 4, ..., `2^m` (R224). -/
def butterflies (m : Nat) (xs : List (F64 × F64)) : List (F64 × F64) :=
  (List.range m).foldl (fun xs k => butterflyStage (2 ^ m) (2 ^ (k + 1)) xs) xs

/-- The transform of `N` complex elements, `m = log2(N)` (R223, R224, R226). -/
def fftTransform (n : Nat) (xs : List (F64 × F64)) : List (F64 × F64) :=
  butterflies n.log2 (bitReverse n.log2 xs)

/-- RE and IM transformed in place (R226). -/
def transformBuffers (s : State) : State :=
  let n := fftLength s
  let ys := fftTransform n ((readElements s .re n).zip (readElements s .im n))
  writeElements (writeElements s .re (ys.map Prod.fst)) .im (ys.map Prod.snd)

/-! ### Power and dB (step 4) -/

/-- The power-spectrum dB scalar of one bin (R228). -/
def powerDb (s : State) (re im : F64) : F64 :=
  let p := fadd (fmul re re) (fmul im im)
  let p := if feq s.spectrumPower fOne then p else Config.pow p s.spectrumPower
  fmul fTen (Config.log10 (fadd (fdiv p (ofNat (fftLength s))) EPS12))

/-- PSD filled from the first half of RE and IM (R229). -/
def fillPsd (s : State) : State :=
  writeElements s .psd
    ((List.range (halfLength s)).map (fun i => powerDb s (readElement s .re i) (readElement s .im i)))

/-! ### Frequency mapping and peak (steps 5 and 6) -/

/-- `nyq` (R231). -/
def nyquist (s : State) : F64 := fdiv s.samplingRate fTwo

/-- `fpb`, the bin width (R231). -/
def binWidth (s : State) : F64 := fdiv (nyquist s) (ofNat (halfLength s))

/-- `clamp(x, a, b)` (R232). -/
def clamp (x a b : F64) : F64 := if flt x a then a else if flt b x then b else x

/-- `lo`, the low end of the visible interval (R232). -/
def visibleLo (s : State) : F64 := clamp (fsub s.centerFreq (fdiv s.span fTwo)) fZero (nyquist s)

/-- `hi`, the high end of the visible interval (R232). -/
def visibleHi (s : State) : F64 := clamp (fadd s.centerFreq (fdiv s.span fTwo)) fZero (nyquist s)

/-- The bin index of a visible frequency, clamped to `[0, half]` (R233). Where the bin width has
underflowed to zero the quotient is not finite and `floor` is a free value (notes/assumptions/10.md). -/
def binIndex (s : State) (f : F64) : Nat :=
  (min (max (ffloor (fdiv f (binWidth s))) 0) (halfLength s : Int)).toNat

/-- Widening of the range of bins `[sb, eb)` to at least one bin inside `[0, half)` (R234). -/
def widen (sb eb half : Nat) : Nat × Nat :=
  let eb := if eb ≤ sb then sb + 1 else eb
  if half < eb then (half - 1, half) else (sb, eb)

/-- The visible range of bins `(START_BIN, END_BIN)` (R233, R234). -/
def visibleBins (s : State) : Nat × Nat :=
  widen (binIndex s (visibleLo s)) (binIndex s (visibleHi s)) (halfLength s)

/-- The peak over `n` further PSD elements after element `i`, the peak so far being `mx` (R235). -/
def peakFrom (s : State) : Nat → Nat → F64 → F64
  | 0, _, mx => mx
  | n + 1, i, mx =>
    let x := readElement s .psd (i + 1)
    peakFrom s n (i + 1) (if flt mx x then x else mx)

/-- `MAX_DB`: the peak over the bins `[sb, eb)` (R235). -/
def peak (s : State) (sb eb : Nat) : F64 := peakFrom s (eb - sb - 1) sb (readElement s .psd sb)

/-- BINRANGE of a range of bins: END_BIN in 63:32, START_BIN in 31:0 (R236). -/
def packRange (r : Nat × Nat) : BitVec 64 := BitVec.ofNat 32 r.2 ++ BitVec.ofNat 32 r.1

/-- The mapping and the peak latched (R236). -/
def latchVisible (s : State) : State :=
  s.latchMapping (binWidth s) (packRange (visibleBins s)) (peak s (visibleBins s).1 (visibleBins s).2)

/-! ### Commands of the steps -/

/-- WINDOW (R222). -/
def execWindow (s : State) : Host.Outcome State Fault Refusal :=
  guarded [(vFftPow2 s, .config), (vWin s, .config), (vFftCap s, .alloc)]
    (fun s => windowInto s (readElements s .re (fftLength s))) s

/-- FFT (R226). -/
def execFft (s : State) : Host.Outcome State Fault Refusal :=
  guarded [(vFftPow2 s, .config), (vFftCap s, .alloc)] transformBuffers s

/-- POWER (R229). -/
def execPower (s : State) : Host.Outcome State Fault Refusal :=
  guarded [(vFftPow2 s, .config), (vPow s, .config), (vFftCap s, .alloc)] fillPsd s

/-- DBSCALAR (R230). -/
def execDbscalar (s : State) : Host.Outcome State Fault Refusal :=
  guarded [(vFftPow2 s, .config), (vPow s, .config), (vFftCap s, .alloc)]
    (fun s => s.setRes0 (powerDb s s.arg0 s.arg1)) s

/-- BINMAP (R236). -/
def execBinmap (s : State) : Host.Outcome State Fault Refusal :=
  guarded [(vFftPow2 s, .config), (vMap s, .config), (vFftCap s, .alloc)] latchVisible s

/-! ### SPECTRUM -/

/-- The times of SPECTRUM's block (R240). -/
def spectrumTimes (s : State) : List F64 := sampleTimes s s.timeOffset (fftLength s)

/-- SPECTRUM's samples before the window, in WRAP mode from a phase of `+0.0`; silence without a draw
for an empty message (R240, R243, R244). -/
def spectrumBlock (s : State) (nz : Bool) : SampleBlock :=
  if symbolCount s = 0 then ⟨List.replicate (fftLength s) fZero, fZero, s.drawPos⟩
  else synthBlock s .wrap nz (spectrumTimes s) fZero s.drawPos

/-- SPECTRUM's effect: steps 2 to 6 (R244). -/
def spectrumEffect (nz : Bool) (s : State) : State :=
  let b := spectrumBlock s nz
  latchVisible (fillPsd (transformBuffers ((windowInto s b.samples).setDrawPos b.drawPos)))

/-- SPECTRUM (R244), with the checks of R239. -/
def execSpectrum (nz : Bool) (s : State) : Host.Outcome State Fault Refusal :=
  guarded
    [(vFftPow2 s, .config), (vSyn s, .config), (vWin s, .config), (vPow s, .config), (vMap s, .config),
     (isFinite s.timeOffset, .config), (!nz || vNoise s, .config), (vFftCap s, .alloc),
     (timesInRange s .wrap (spectrumTimes s), .range)]
    (spectrumEffect nz) s

/-! ### Hover (step 6) -/

/-- START_BIN of the latched mapping (spec/10_state.md R55). -/
def startBin (s : State) : Nat := (s.binRange.extractLsb' 0 32).toNat

/-- END_BIN of the latched mapping (R55). -/
def endBin (s : State) : Nat := (s.binRange.extractLsb' 32 32).toNat

/-- The nearest bin of a query frequency under the latched mapping (R245). -/
def hoverBin (s : State) (f : F64) : Int :=
  let x := fadd (fdiv f s.freqPerBin) fHalf
  if x = fPosInf then (endBin s : Int) - 1
  else if x = fNegInf then (startBin s : Int)
  else min (max (ffloor x) (startBin s : Int)) ((endBin s : Int) - 1)

/-- HOVER (R247). -/
def execHover (s : State) : Host.Outcome State Fault Refusal :=
  guarded [(!isNaN s.arg0, .config), (s.specValid, .nospec)]
    (fun s =>
      let k := hoverBin s s.arg0
      ((s.setResi (BitVec.ofInt 32 k)).setRes0 (fmul (ofInt k) s.freqPerBin)).setRes1
        (readElement s .psd k.toNat)) s

end Sys2Proof.Machine
end

