-- ==== Sys2Proof/Machine/Dispatch.lean ====
section
/-!
DEFINITION. The meaning of each command: one arm for each constructor of Instr.
-/

namespace Sys2Proof.Machine

def exec (i : Instr) (s : State) : Host.Outcome State Fault Refusal :=
  match i with
  | .nop => Sys2Proof.Machine.execNop s
  | .sinc => Sys2Proof.Machine.execSinc s
  | .rcos => Sys2Proof.Machine.execRcos s
  | .getsym => Sys2Proof.Machine.execGetsym s
  | .sample im nz => Sys2Proof.Machine.execSample im nz s
  | .sweep im nz pr => Sys2Proof.Machine.execSweep im nz pr s
  | .iqpoint nz => Sys2Proof.Machine.execIqpoint nz s
  | .noise => Sys2Proof.Machine.execNoise s
  | .window => Sys2Proof.Machine.execWindow s
  | .fft => Sys2Proof.Machine.execFft s
  | .power => Sys2Proof.Machine.execPower s
  | .dbscalar => Sys2Proof.Machine.execDbscalar s
  | .binmap => Sys2Proof.Machine.execBinmap s
  | .spectrum nz => Sys2Proof.Machine.execSpectrum nz s
  | .hover => Sys2Proof.Machine.execHover s
  | .pack32 => Sys2Proof.Machine.execPack32 s

end Sys2Proof.Machine
end

