-- ==== Sys2Proof/Machine/Bus.lean ====
section
/-!
DEFINITION. What a host access does to the block (spec/20_memory.md): a read, a write of a register or
a memory, a write to CMD, which runs one command before it completes (R80), and reset.
-/

namespace Sys2Proof.Machine

/-- A command word written to CMD: the command it decodes to, or ILLEGAL (spec/30_encoding.md R105). -/
def runCommand (w : CmdWord) (s : State) : Host.Outcome State Fault Refusal :=
  match decode w with
  | .ok i => exec i s
  | .error _ => raise .illegal s

/-- The access completes with a response to the host. -/
def completeWith (r : HostResponse) : Host.Outcome State Fault Refusal → Host.Outcome State Fault Refusal
  | .next s => .next (s.respond r)
  | .fault f => .fault f
  | .refused q => .refused q

/-- A bus operation's outcome as a host access: a bus error is the access's response, and leaves the
block as it was (spec/60_exceptions.md R290; notes/assumptions/2.md). -/
def respondBusError (s : State) : Fault → Host.Outcome State Fault Refusal
  | .busError => .next (s.respond .busError)

/-- A host read (R72, R78). -/
def hostRead (addr : Addr) (w : AccessWidth) (s : State) : Host.Outcome State Fault Refusal :=
  match busRead s addr w with
  | .ok v => .next (s.respond (.readData v))
  | .error f => respondBusError s f

/-- A host write (R72, R78). A write to CMD executes the word in bits 31:0 of the value (spec/10_state.md
R36). -/
def hostWrite (addr : Addr) (w : AccessWidth) (v : Word) (s : State) : Host.Outcome State Fault Refusal :=
  match busTarget s.params addr w with
  | .error f => respondBusError s f
  | .ok .registers =>
    match RegName.ofOffset addr.toNat with
    | none => respondBusError s .busError
    | some .cmd => completeWith .writeDone (runCommand (v.setWidth 32) s)
    | some r => .next ((writeReg r v s).respond .writeDone)
  | .ok _ => .next ((memWrite s addr.toNat w.bytes v).respond .writeDone)

/-- One host access (R81: each is performed whole, in the order the host issues it). -/
def performAccess (a : HostAccess) (s : State) : Host.Outcome State Fault Refusal :=
  match a with
  | .read addr w => hostRead addr w s
  | .write addr w v => hostWrite addr w v s
  | .reset => .next ((resetBlock s).respond .resetDone)

/-- One step: the host's next access. With none pending the block is idle and nothing changes
(spec/70_reset_and_hazards.md R311; notes/assumptions/1.md). -/
def hostStep (s : State) : Host.Outcome State Fault Refusal :=
  match s.hostQueue with
  | [] => .next s
  | a :: rest => performAccess a { s with hostQueue := rest }

/-- The host access that writes a command word, zero-extended, to CMD (spec/30_encoding.md R109). -/
def commandWrite (w : CmdWord) : HostAccess := .write 0x000010 .b8 (w.setWidth 64)

end Sys2Proof.Machine
end

