-- ==== Sys2Proof/Machine/Step.lean ====
section
/-!
DEFINITION. One step of the machine, and a state whose next step runs a given command.
-/

namespace Sys2Proof.Machine

/-- One step: the host's next access (`hostStep`). -/
def step (s : State) : Host.Outcome State Fault Refusal := hostStep s

/-- `s` with a command of `nbits` bits about to be run: the host's next access is the CMD write of it,
before whatever else the host has still to do (notes/assumptions/1.md). -/
def State.withFetchWord (s : State) (nbits w : Nat) : State :=
  { s with hostQueue := commandWrite (BitVec.ofNat 32 (w % 2 ^ nbits)) :: s.hostQueue }

end Sys2Proof.Machine
end

