-- ==== Sys2Proof/Laws/Float.lean ====
section
/-!
SUPPORT. The parts of a packed binary64 pattern, that a free NaN is a NaN, and that rounding never
passes infinity.
-/

namespace Sys2Proof.Machine

theorem fSign_eq (x : F64) : fSign x = decide (2 ^ 63 ≤ x.toNat) := by
  have := x.isLt
  rw [fSign, BitVec.getLsbD, Nat.testBit_eq_decide_div_mod_eq]
  congr 1
  apply propext
  constructor <;> intro h <;> omega

theorem fExpField_eq (x : F64) : fExpField x = x.toNat / 2 ^ 52 % 2048 := by
  simp [fExpField, BitVec.extractLsb'_toNat, Nat.shiftRight_eq_div_pow]

theorem fFraction_eq (x : F64) : fFraction x = x.toNat % 2 ^ 52 := by
  simp [fFraction, BitVec.extractLsb'_toNat]

theorem fMagnitude_eq (x : F64) : fMagnitude x = x.toNat % 2 ^ 63 := by
  simp [fMagnitude, BitVec.extractLsb'_toNat]

/-- A packed pattern as a number. -/
theorem fPack_toNat (sign : Bool) (m : Nat) : (fPack sign m).toNat = (if sign then 2 ^ 63 else 0) + m % 2 ^ 63 := by
  have hm : m % 2 ^ 63 < 2 ^ 63 := Nat.mod_lt _ (by norm_num)
  rw [fPack, BitVec.toNat_append, BitVec.toNat_ofNat, ← Nat.shiftLeft_add_eq_or_of_lt hm, Nat.shiftLeft_eq]
  cases sign <;> simp

@[simp] theorem fSign_fPack (sign : Bool) (m : Nat) : fSign (fPack sign m) = sign := by
  have hm : m % 2 ^ 63 < 2 ^ 63 := Nat.mod_lt _ (by norm_num)
  rw [fSign_eq, fPack_toNat]
  cases sign
  · simpa using hm
  · simp

theorem fMagnitude_fPack (sign : Bool) (m : Nat) : fMagnitude (fPack sign m) = m % 2 ^ 63 := by
  have hm : m % 2 ^ 63 < 2 ^ 63 := Nat.mod_lt _ (by norm_num)
  rw [fMagnitude_eq, fPack_toNat]
  cases sign <;> simp

/-- The NaN test on the magnitude bits. -/
theorem isNaN_iff (x : F64) : isNaN x = true ↔ 0x7FF0000000000000 < fMagnitude x := by
  have := x.isLt
  rw [isNaN, fExpField_eq, fFraction_eq, fMagnitude_eq]
  simp only [Bool.and_eq_true, beq_iff_eq, bne_iff_ne]
  omega

/-- The free NaN is a NaN, whatever its bits are. -/
@[simp] theorem isNaN_freeNaN (op : Config.FpOp) (a b : F64) : isNaN (freeNaN op a b) = true := by
  have := (Config.nanFraction op a b).isLt
  rw [freeNaN, mkNaN, isNaN_iff, fMagnitude_fPack]
  omega

/-- Rounding gives at most the bits of infinity. -/
theorem roundCode_le (fmt : Format) (m : Nat) (e : Int) (sticky : Bool) :
    roundCode fmt m e sticky ≤ fmt.infCode := by
  unfold roundCode
  split
  · exact Nat.zero_le _
  · exact Nat.min_le_left _ _

/-- Rounding never gives a NaN. -/
@[simp] theorem isNaN_fRound (sign : Bool) (m : Nat) (e : Int) (sticky : Bool) :
    isNaN (fRound sign m e sticky) = false := by
  have h := roundCode_le binary64 m e sticky
  rw [← Bool.not_eq_true, isNaN_iff, fRound, fMagnitude_fPack]
  simp only [binary64] at h ⊢
  omega

end Sys2Proof.Machine
end

