-- ==== Sys2Proof/Laws/State.lean ====
section
/-!
SUPPORT. One lemma for each field after each update of the state, true by rfl, so that no later proof
unfolds a record update.
-/

namespace Sys2Proof.Machine

section updates
variable (s : State)


/-! ### setRes0 -/

@[simp] theorem setRes0_params (v : F64) : (s.setRes0 v).params = s.params := rfl
@[simp] theorem setRes0_err (v : F64) : (s.setRes0 v).err = s.err := rfl
@[simp] theorem setRes0_ecode (v : F64) : (s.setRes0 v).ecode = s.ecode := rfl
@[simp] theorem setRes0_specValid (v : F64) : (s.setRes0 v).specValid = s.specValid := rfl
@[simp] theorem setRes0_modcfg (v : F64) : (s.setRes0 v).modcfg = s.modcfg := rfl
@[simp] theorem setRes0_amplitude (v : F64) : (s.setRes0 v).amplitude = s.amplitude := rfl
@[simp] theorem setRes0_carrierFreq (v : F64) : (s.setRes0 v).carrierFreq = s.carrierFreq := rfl
@[simp] theorem setRes0_symbolPeriod (v : F64) : (s.setRes0 v).symbolPeriod = s.symbolPeriod := rfl
@[simp] theorem setRes0_rollOff (v : F64) : (s.setRes0 v).rollOff = s.rollOff := rfl
@[simp] theorem setRes0_samplingRate (v : F64) : (s.setRes0 v).samplingRate = s.samplingRate := rfl
@[simp] theorem setRes0_snrDb (v : F64) : (s.setRes0 v).snrDb = s.snrDb := rfl
@[simp] theorem setRes0_fftSize (v : F64) : (s.setRes0 v).fftSize = s.fftSize := rfl
@[simp] theorem setRes0_spectrumPower (v : F64) : (s.setRes0 v).spectrumPower = s.spectrumPower := rfl
@[simp] theorem setRes0_centerFreq (v : F64) : (s.setRes0 v).centerFreq = s.centerFreq := rfl
@[simp] theorem setRes0_span (v : F64) : (s.setRes0 v).span = s.span := rfl
@[simp] theorem setRes0_timeOffset (v : F64) : (s.setRes0 v).timeOffset = s.timeOffset := rfl
@[simp] theorem setRes0_msgLen (v : F64) : (s.setRes0 v).msgLen = s.msgLen := rfl
@[simp] theorem setRes0_count (v : F64) : (s.setRes0 v).count = s.count := rfl
@[simp] theorem setRes0_phase (v : F64) : (s.setRes0 v).phase = s.phase := rfl
@[simp] theorem setRes0_arg0 (v : F64) : (s.setRes0 v).arg0 = s.arg0 := rfl
@[simp] theorem setRes0_arg1 (v : F64) : (s.setRes0 v).arg1 = s.arg1 := rfl
@[simp] theorem setRes0_arg2 (v : F64) : (s.setRes0 v).arg2 = s.arg2 := rfl
@[simp] theorem setRes0_argi (v : F64) : (s.setRes0 v).argi = s.argi := rfl
@[simp] theorem setRes0_res0 (v : F64) : (s.setRes0 v).res0 = v := rfl
@[simp] theorem setRes0_res1 (v : F64) : (s.setRes0 v).res1 = s.res1 := rfl
@[simp] theorem setRes0_resi (v : F64) : (s.setRes0 v).resi = s.resi := rfl
@[simp] theorem setRes0_maxDb (v : F64) : (s.setRes0 v).maxDb = s.maxDb := rfl
@[simp] theorem setRes0_freqPerBin (v : F64) : (s.setRes0 v).freqPerBin = s.freqPerBin := rfl
@[simp] theorem setRes0_binRange (v : F64) : (s.setRes0 v).binRange = s.binRange := rfl
@[simp] theorem setRes0_mem (v : F64) : (s.setRes0 v).mem = s.mem := rfl
@[simp] theorem setRes0_drawPos (v : F64) : (s.setRes0 v).drawPos = s.drawPos := rfl
@[simp] theorem setRes0_resetCount (v : F64) : (s.setRes0 v).resetCount = s.resetCount := rfl
@[simp] theorem setRes0_hostQueue (v : F64) : (s.setRes0 v).hostQueue = s.hostQueue := rfl
@[simp] theorem setRes0_response (v : F64) : (s.setRes0 v).response = s.response := rfl

/-! ### setRes1 -/

@[simp] theorem setRes1_params (v : F64) : (s.setRes1 v).params = s.params := rfl
@[simp] theorem setRes1_err (v : F64) : (s.setRes1 v).err = s.err := rfl
@[simp] theorem setRes1_ecode (v : F64) : (s.setRes1 v).ecode = s.ecode := rfl
@[simp] theorem setRes1_specValid (v : F64) : (s.setRes1 v).specValid = s.specValid := rfl
@[simp] theorem setRes1_modcfg (v : F64) : (s.setRes1 v).modcfg = s.modcfg := rfl
@[simp] theorem setRes1_amplitude (v : F64) : (s.setRes1 v).amplitude = s.amplitude := rfl
@[simp] theorem setRes1_carrierFreq (v : F64) : (s.setRes1 v).carrierFreq = s.carrierFreq := rfl
@[simp] theorem setRes1_symbolPeriod (v : F64) : (s.setRes1 v).symbolPeriod = s.symbolPeriod := rfl
@[simp] theorem setRes1_rollOff (v : F64) : (s.setRes1 v).rollOff = s.rollOff := rfl
@[simp] theorem setRes1_samplingRate (v : F64) : (s.setRes1 v).samplingRate = s.samplingRate := rfl
@[simp] theorem setRes1_snrDb (v : F64) : (s.setRes1 v).snrDb = s.snrDb := rfl
@[simp] theorem setRes1_fftSize (v : F64) : (s.setRes1 v).fftSize = s.fftSize := rfl
@[simp] theorem setRes1_spectrumPower (v : F64) : (s.setRes1 v).spectrumPower = s.spectrumPower := rfl
@[simp] theorem setRes1_centerFreq (v : F64) : (s.setRes1 v).centerFreq = s.centerFreq := rfl
@[simp] theorem setRes1_span (v : F64) : (s.setRes1 v).span = s.span := rfl
@[simp] theorem setRes1_timeOffset (v : F64) : (s.setRes1 v).timeOffset = s.timeOffset := rfl
@[simp] theorem setRes1_msgLen (v : F64) : (s.setRes1 v).msgLen = s.msgLen := rfl
@[simp] theorem setRes1_count (v : F64) : (s.setRes1 v).count = s.count := rfl
@[simp] theorem setRes1_phase (v : F64) : (s.setRes1 v).phase = s.phase := rfl
@[simp] theorem setRes1_arg0 (v : F64) : (s.setRes1 v).arg0 = s.arg0 := rfl
@[simp] theorem setRes1_arg1 (v : F64) : (s.setRes1 v).arg1 = s.arg1 := rfl
@[simp] theorem setRes1_arg2 (v : F64) : (s.setRes1 v).arg2 = s.arg2 := rfl
@[simp] theorem setRes1_argi (v : F64) : (s.setRes1 v).argi = s.argi := rfl
@[simp] theorem setRes1_res0 (v : F64) : (s.setRes1 v).res0 = s.res0 := rfl
@[simp] theorem setRes1_res1 (v : F64) : (s.setRes1 v).res1 = v := rfl
@[simp] theorem setRes1_resi (v : F64) : (s.setRes1 v).resi = s.resi := rfl
@[simp] theorem setRes1_maxDb (v : F64) : (s.setRes1 v).maxDb = s.maxDb := rfl
@[simp] theorem setRes1_freqPerBin (v : F64) : (s.setRes1 v).freqPerBin = s.freqPerBin := rfl
@[simp] theorem setRes1_binRange (v : F64) : (s.setRes1 v).binRange = s.binRange := rfl
@[simp] theorem setRes1_mem (v : F64) : (s.setRes1 v).mem = s.mem := rfl
@[simp] theorem setRes1_drawPos (v : F64) : (s.setRes1 v).drawPos = s.drawPos := rfl
@[simp] theorem setRes1_resetCount (v : F64) : (s.setRes1 v).resetCount = s.resetCount := rfl
@[simp] theorem setRes1_hostQueue (v : F64) : (s.setRes1 v).hostQueue = s.hostQueue := rfl
@[simp] theorem setRes1_response (v : F64) : (s.setRes1 v).response = s.response := rfl

/-! ### setResi -/

@[simp] theorem setResi_params (v : BitVec 32) : (s.setResi v).params = s.params := rfl
@[simp] theorem setResi_err (v : BitVec 32) : (s.setResi v).err = s.err := rfl
@[simp] theorem setResi_ecode (v : BitVec 32) : (s.setResi v).ecode = s.ecode := rfl
@[simp] theorem setResi_specValid (v : BitVec 32) : (s.setResi v).specValid = s.specValid := rfl
@[simp] theorem setResi_modcfg (v : BitVec 32) : (s.setResi v).modcfg = s.modcfg := rfl
@[simp] theorem setResi_amplitude (v : BitVec 32) : (s.setResi v).amplitude = s.amplitude := rfl
@[simp] theorem setResi_carrierFreq (v : BitVec 32) : (s.setResi v).carrierFreq = s.carrierFreq := rfl
@[simp] theorem setResi_symbolPeriod (v : BitVec 32) : (s.setResi v).symbolPeriod = s.symbolPeriod := rfl
@[simp] theorem setResi_rollOff (v : BitVec 32) : (s.setResi v).rollOff = s.rollOff := rfl
@[simp] theorem setResi_samplingRate (v : BitVec 32) : (s.setResi v).samplingRate = s.samplingRate := rfl
@[simp] theorem setResi_snrDb (v : BitVec 32) : (s.setResi v).snrDb = s.snrDb := rfl
@[simp] theorem setResi_fftSize (v : BitVec 32) : (s.setResi v).fftSize = s.fftSize := rfl
@[simp] theorem setResi_spectrumPower (v : BitVec 32) : (s.setResi v).spectrumPower = s.spectrumPower := rfl
@[simp] theorem setResi_centerFreq (v : BitVec 32) : (s.setResi v).centerFreq = s.centerFreq := rfl
@[simp] theorem setResi_span (v : BitVec 32) : (s.setResi v).span = s.span := rfl
@[simp] theorem setResi_timeOffset (v : BitVec 32) : (s.setResi v).timeOffset = s.timeOffset := rfl
@[simp] theorem setResi_msgLen (v : BitVec 32) : (s.setResi v).msgLen = s.msgLen := rfl
@[simp] theorem setResi_count (v : BitVec 32) : (s.setResi v).count = s.count := rfl
@[simp] theorem setResi_phase (v : BitVec 32) : (s.setResi v).phase = s.phase := rfl
@[simp] theorem setResi_arg0 (v : BitVec 32) : (s.setResi v).arg0 = s.arg0 := rfl
@[simp] theorem setResi_arg1 (v : BitVec 32) : (s.setResi v).arg1 = s.arg1 := rfl
@[simp] theorem setResi_arg2 (v : BitVec 32) : (s.setResi v).arg2 = s.arg2 := rfl
@[simp] theorem setResi_argi (v : BitVec 32) : (s.setResi v).argi = s.argi := rfl
@[simp] theorem setResi_res0 (v : BitVec 32) : (s.setResi v).res0 = s.res0 := rfl
@[simp] theorem setResi_res1 (v : BitVec 32) : (s.setResi v).res1 = s.res1 := rfl
@[simp] theorem setResi_resi (v : BitVec 32) : (s.setResi v).resi = v := rfl
@[simp] theorem setResi_maxDb (v : BitVec 32) : (s.setResi v).maxDb = s.maxDb := rfl
@[simp] theorem setResi_freqPerBin (v : BitVec 32) : (s.setResi v).freqPerBin = s.freqPerBin := rfl
@[simp] theorem setResi_binRange (v : BitVec 32) : (s.setResi v).binRange = s.binRange := rfl
@[simp] theorem setResi_mem (v : BitVec 32) : (s.setResi v).mem = s.mem := rfl
@[simp] theorem setResi_drawPos (v : BitVec 32) : (s.setResi v).drawPos = s.drawPos := rfl
@[simp] theorem setResi_resetCount (v : BitVec 32) : (s.setResi v).resetCount = s.resetCount := rfl
@[simp] theorem setResi_hostQueue (v : BitVec 32) : (s.setResi v).hostQueue = s.hostQueue := rfl
@[simp] theorem setResi_response (v : BitVec 32) : (s.setResi v).response = s.response := rfl

/-! ### setPhase -/

@[simp] theorem setPhase_params (v : F64) : (s.setPhase v).params = s.params := rfl
@[simp] theorem setPhase_err (v : F64) : (s.setPhase v).err = s.err := rfl
@[simp] theorem setPhase_ecode (v : F64) : (s.setPhase v).ecode = s.ecode := rfl
@[simp] theorem setPhase_specValid (v : F64) : (s.setPhase v).specValid = s.specValid := rfl
@[simp] theorem setPhase_modcfg (v : F64) : (s.setPhase v).modcfg = s.modcfg := rfl
@[simp] theorem setPhase_amplitude (v : F64) : (s.setPhase v).amplitude = s.amplitude := rfl
@[simp] theorem setPhase_carrierFreq (v : F64) : (s.setPhase v).carrierFreq = s.carrierFreq := rfl
@[simp] theorem setPhase_symbolPeriod (v : F64) : (s.setPhase v).symbolPeriod = s.symbolPeriod := rfl
@[simp] theorem setPhase_rollOff (v : F64) : (s.setPhase v).rollOff = s.rollOff := rfl
@[simp] theorem setPhase_samplingRate (v : F64) : (s.setPhase v).samplingRate = s.samplingRate := rfl
@[simp] theorem setPhase_snrDb (v : F64) : (s.setPhase v).snrDb = s.snrDb := rfl
@[simp] theorem setPhase_fftSize (v : F64) : (s.setPhase v).fftSize = s.fftSize := rfl
@[simp] theorem setPhase_spectrumPower (v : F64) : (s.setPhase v).spectrumPower = s.spectrumPower := rfl
@[simp] theorem setPhase_centerFreq (v : F64) : (s.setPhase v).centerFreq = s.centerFreq := rfl
@[simp] theorem setPhase_span (v : F64) : (s.setPhase v).span = s.span := rfl
@[simp] theorem setPhase_timeOffset (v : F64) : (s.setPhase v).timeOffset = s.timeOffset := rfl
@[simp] theorem setPhase_msgLen (v : F64) : (s.setPhase v).msgLen = s.msgLen := rfl
@[simp] theorem setPhase_count (v : F64) : (s.setPhase v).count = s.count := rfl
@[simp] theorem setPhase_phase (v : F64) : (s.setPhase v).phase = v := rfl
@[simp] theorem setPhase_arg0 (v : F64) : (s.setPhase v).arg0 = s.arg0 := rfl
@[simp] theorem setPhase_arg1 (v : F64) : (s.setPhase v).arg1 = s.arg1 := rfl
@[simp] theorem setPhase_arg2 (v : F64) : (s.setPhase v).arg2 = s.arg2 := rfl
@[simp] theorem setPhase_argi (v : F64) : (s.setPhase v).argi = s.argi := rfl
@[simp] theorem setPhase_res0 (v : F64) : (s.setPhase v).res0 = s.res0 := rfl
@[simp] theorem setPhase_res1 (v : F64) : (s.setPhase v).res1 = s.res1 := rfl
@[simp] theorem setPhase_resi (v : F64) : (s.setPhase v).resi = s.resi := rfl
@[simp] theorem setPhase_maxDb (v : F64) : (s.setPhase v).maxDb = s.maxDb := rfl
@[simp] theorem setPhase_freqPerBin (v : F64) : (s.setPhase v).freqPerBin = s.freqPerBin := rfl
@[simp] theorem setPhase_binRange (v : F64) : (s.setPhase v).binRange = s.binRange := rfl
@[simp] theorem setPhase_mem (v : F64) : (s.setPhase v).mem = s.mem := rfl
@[simp] theorem setPhase_drawPos (v : F64) : (s.setPhase v).drawPos = s.drawPos := rfl
@[simp] theorem setPhase_resetCount (v : F64) : (s.setPhase v).resetCount = s.resetCount := rfl
@[simp] theorem setPhase_hostQueue (v : F64) : (s.setPhase v).hostQueue = s.hostQueue := rfl
@[simp] theorem setPhase_response (v : F64) : (s.setPhase v).response = s.response := rfl

/-! ### setMem -/

@[simp] theorem setMem_params (m : Memory) : (s.setMem m).params = s.params := rfl
@[simp] theorem setMem_err (m : Memory) : (s.setMem m).err = s.err := rfl
@[simp] theorem setMem_ecode (m : Memory) : (s.setMem m).ecode = s.ecode := rfl
@[simp] theorem setMem_specValid (m : Memory) : (s.setMem m).specValid = s.specValid := rfl
@[simp] theorem setMem_modcfg (m : Memory) : (s.setMem m).modcfg = s.modcfg := rfl
@[simp] theorem setMem_amplitude (m : Memory) : (s.setMem m).amplitude = s.amplitude := rfl
@[simp] theorem setMem_carrierFreq (m : Memory) : (s.setMem m).carrierFreq = s.carrierFreq := rfl
@[simp] theorem setMem_symbolPeriod (m : Memory) : (s.setMem m).symbolPeriod = s.symbolPeriod := rfl
@[simp] theorem setMem_rollOff (m : Memory) : (s.setMem m).rollOff = s.rollOff := rfl
@[simp] theorem setMem_samplingRate (m : Memory) : (s.setMem m).samplingRate = s.samplingRate := rfl
@[simp] theorem setMem_snrDb (m : Memory) : (s.setMem m).snrDb = s.snrDb := rfl
@[simp] theorem setMem_fftSize (m : Memory) : (s.setMem m).fftSize = s.fftSize := rfl
@[simp] theorem setMem_spectrumPower (m : Memory) : (s.setMem m).spectrumPower = s.spectrumPower := rfl
@[simp] theorem setMem_centerFreq (m : Memory) : (s.setMem m).centerFreq = s.centerFreq := rfl
@[simp] theorem setMem_span (m : Memory) : (s.setMem m).span = s.span := rfl
@[simp] theorem setMem_timeOffset (m : Memory) : (s.setMem m).timeOffset = s.timeOffset := rfl
@[simp] theorem setMem_msgLen (m : Memory) : (s.setMem m).msgLen = s.msgLen := rfl
@[simp] theorem setMem_count (m : Memory) : (s.setMem m).count = s.count := rfl
@[simp] theorem setMem_phase (m : Memory) : (s.setMem m).phase = s.phase := rfl
@[simp] theorem setMem_arg0 (m : Memory) : (s.setMem m).arg0 = s.arg0 := rfl
@[simp] theorem setMem_arg1 (m : Memory) : (s.setMem m).arg1 = s.arg1 := rfl
@[simp] theorem setMem_arg2 (m : Memory) : (s.setMem m).arg2 = s.arg2 := rfl
@[simp] theorem setMem_argi (m : Memory) : (s.setMem m).argi = s.argi := rfl
@[simp] theorem setMem_res0 (m : Memory) : (s.setMem m).res0 = s.res0 := rfl
@[simp] theorem setMem_res1 (m : Memory) : (s.setMem m).res1 = s.res1 := rfl
@[simp] theorem setMem_resi (m : Memory) : (s.setMem m).resi = s.resi := rfl
@[simp] theorem setMem_maxDb (m : Memory) : (s.setMem m).maxDb = s.maxDb := rfl
@[simp] theorem setMem_freqPerBin (m : Memory) : (s.setMem m).freqPerBin = s.freqPerBin := rfl
@[simp] theorem setMem_binRange (m : Memory) : (s.setMem m).binRange = s.binRange := rfl
@[simp] theorem setMem_mem (m : Memory) : (s.setMem m).mem = m := rfl
@[simp] theorem setMem_drawPos (m : Memory) : (s.setMem m).drawPos = s.drawPos := rfl
@[simp] theorem setMem_resetCount (m : Memory) : (s.setMem m).resetCount = s.resetCount := rfl
@[simp] theorem setMem_hostQueue (m : Memory) : (s.setMem m).hostQueue = s.hostQueue := rfl
@[simp] theorem setMem_response (m : Memory) : (s.setMem m).response = s.response := rfl

/-! ### setDrawPos -/

@[simp] theorem setDrawPos_params (n : Nat) : (s.setDrawPos n).params = s.params := rfl
@[simp] theorem setDrawPos_err (n : Nat) : (s.setDrawPos n).err = s.err := rfl
@[simp] theorem setDrawPos_ecode (n : Nat) : (s.setDrawPos n).ecode = s.ecode := rfl
@[simp] theorem setDrawPos_specValid (n : Nat) : (s.setDrawPos n).specValid = s.specValid := rfl
@[simp] theorem setDrawPos_modcfg (n : Nat) : (s.setDrawPos n).modcfg = s.modcfg := rfl
@[simp] theorem setDrawPos_amplitude (n : Nat) : (s.setDrawPos n).amplitude = s.amplitude := rfl
@[simp] theorem setDrawPos_carrierFreq (n : Nat) : (s.setDrawPos n).carrierFreq = s.carrierFreq := rfl
@[simp] theorem setDrawPos_symbolPeriod (n : Nat) : (s.setDrawPos n).symbolPeriod = s.symbolPeriod := rfl
@[simp] theorem setDrawPos_rollOff (n : Nat) : (s.setDrawPos n).rollOff = s.rollOff := rfl
@[simp] theorem setDrawPos_samplingRate (n : Nat) : (s.setDrawPos n).samplingRate = s.samplingRate := rfl
@[simp] theorem setDrawPos_snrDb (n : Nat) : (s.setDrawPos n).snrDb = s.snrDb := rfl
@[simp] theorem setDrawPos_fftSize (n : Nat) : (s.setDrawPos n).fftSize = s.fftSize := rfl
@[simp] theorem setDrawPos_spectrumPower (n : Nat) : (s.setDrawPos n).spectrumPower = s.spectrumPower := rfl
@[simp] theorem setDrawPos_centerFreq (n : Nat) : (s.setDrawPos n).centerFreq = s.centerFreq := rfl
@[simp] theorem setDrawPos_span (n : Nat) : (s.setDrawPos n).span = s.span := rfl
@[simp] theorem setDrawPos_timeOffset (n : Nat) : (s.setDrawPos n).timeOffset = s.timeOffset := rfl
@[simp] theorem setDrawPos_msgLen (n : Nat) : (s.setDrawPos n).msgLen = s.msgLen := rfl
@[simp] theorem setDrawPos_count (n : Nat) : (s.setDrawPos n).count = s.count := rfl
@[simp] theorem setDrawPos_phase (n : Nat) : (s.setDrawPos n).phase = s.phase := rfl
@[simp] theorem setDrawPos_arg0 (n : Nat) : (s.setDrawPos n).arg0 = s.arg0 := rfl
@[simp] theorem setDrawPos_arg1 (n : Nat) : (s.setDrawPos n).arg1 = s.arg1 := rfl
@[simp] theorem setDrawPos_arg2 (n : Nat) : (s.setDrawPos n).arg2 = s.arg2 := rfl
@[simp] theorem setDrawPos_argi (n : Nat) : (s.setDrawPos n).argi = s.argi := rfl
@[simp] theorem setDrawPos_res0 (n : Nat) : (s.setDrawPos n).res0 = s.res0 := rfl
@[simp] theorem setDrawPos_res1 (n : Nat) : (s.setDrawPos n).res1 = s.res1 := rfl
@[simp] theorem setDrawPos_resi (n : Nat) : (s.setDrawPos n).resi = s.resi := rfl
@[simp] theorem setDrawPos_maxDb (n : Nat) : (s.setDrawPos n).maxDb = s.maxDb := rfl
@[simp] theorem setDrawPos_freqPerBin (n : Nat) : (s.setDrawPos n).freqPerBin = s.freqPerBin := rfl
@[simp] theorem setDrawPos_binRange (n : Nat) : (s.setDrawPos n).binRange = s.binRange := rfl
@[simp] theorem setDrawPos_mem (n : Nat) : (s.setDrawPos n).mem = s.mem := rfl
@[simp] theorem setDrawPos_drawPos (n : Nat) : (s.setDrawPos n).drawPos = n := rfl
@[simp] theorem setDrawPos_resetCount (n : Nat) : (s.setDrawPos n).resetCount = s.resetCount := rfl
@[simp] theorem setDrawPos_hostQueue (n : Nat) : (s.setDrawPos n).hostQueue = s.hostQueue := rfl
@[simp] theorem setDrawPos_response (n : Nat) : (s.setDrawPos n).response = s.response := rfl

/-! ### latchMapping -/

@[simp] theorem latchMapping_params (f : F64) (r : BitVec 64) (x : F64) :
    (s.latchMapping f r x).params = s.params := rfl
@[simp] theorem latchMapping_err (f : F64) (r : BitVec 64) (x : F64) : (s.latchMapping f r x).err = s.err := rfl
@[simp] theorem latchMapping_ecode (f : F64) (r : BitVec 64) (x : F64) : (s.latchMapping f r x).ecode = s.ecode := rfl
@[simp] theorem latchMapping_specValid (f : F64) (r : BitVec 64) (x : F64) :
    (s.latchMapping f r x).specValid = true := rfl
@[simp] theorem latchMapping_modcfg (f : F64) (r : BitVec 64) (x : F64) :
    (s.latchMapping f r x).modcfg = s.modcfg := rfl
@[simp] theorem latchMapping_amplitude (f : F64) (r : BitVec 64) (x : F64) :
    (s.latchMapping f r x).amplitude = s.amplitude := rfl
@[simp] theorem latchMapping_carrierFreq (f : F64) (r : BitVec 64) (x : F64) :
    (s.latchMapping f r x).carrierFreq = s.carrierFreq := rfl
@[simp] theorem latchMapping_symbolPeriod (f : F64) (r : BitVec 64) (x : F64) :
    (s.latchMapping f r x).symbolPeriod = s.symbolPeriod := rfl
@[simp] theorem latchMapping_rollOff (f : F64) (r : BitVec 64) (x : F64) :
    (s.latchMapping f r x).rollOff = s.rollOff := rfl
@[simp] theorem latchMapping_samplingRate (f : F64) (r : BitVec 64) (x : F64) :
    (s.latchMapping f r x).samplingRate = s.samplingRate := rfl
@[simp] theorem latchMapping_snrDb (f : F64) (r : BitVec 64) (x : F64) : (s.latchMapping f r x).snrDb = s.snrDb := rfl
@[simp] theorem latchMapping_fftSize (f : F64) (r : BitVec 64) (x : F64) :
    (s.latchMapping f r x).fftSize = s.fftSize := rfl
@[simp] theorem latchMapping_spectrumPower (f : F64) (r : BitVec 64) (x : F64) :
    (s.latchMapping f r x).spectrumPower = s.spectrumPower := rfl
@[simp] theorem latchMapping_centerFreq (f : F64) (r : BitVec 64) (x : F64) :
    (s.latchMapping f r x).centerFreq = s.centerFreq := rfl
@[simp] theorem latchMapping_span (f : F64) (r : BitVec 64) (x : F64) : (s.latchMapping f r x).span = s.span := rfl
@[simp] theorem latchMapping_timeOffset (f : F64) (r : BitVec 64) (x : F64) :
    (s.latchMapping f r x).timeOffset = s.timeOffset := rfl
@[simp] theorem latchMapping_msgLen (f : F64) (r : BitVec 64) (x : F64) :
    (s.latchMapping f r x).msgLen = s.msgLen := rfl
@[simp] theorem latchMapping_count (f : F64) (r : BitVec 64) (x : F64) : (s.latchMapping f r x).count = s.count := rfl
@[simp] theorem latchMapping_phase (f : F64) (r : BitVec 64) (x : F64) : (s.latchMapping f r x).phase = s.phase := rfl
@[simp] theorem latchMapping_arg0 (f : F64) (r : BitVec 64) (x : F64) : (s.latchMapping f r x).arg0 = s.arg0 := rfl
@[simp] theorem latchMapping_arg1 (f : F64) (r : BitVec 64) (x : F64) : (s.latchMapping f r x).arg1 = s.arg1 := rfl
@[simp] theorem latchMapping_arg2 (f : F64) (r : BitVec 64) (x : F64) : (s.latchMapping f r x).arg2 = s.arg2 := rfl
@[simp] theorem latchMapping_argi (f : F64) (r : BitVec 64) (x : F64) : (s.latchMapping f r x).argi = s.argi := rfl
@[simp] theorem latchMapping_res0 (f : F64) (r : BitVec 64) (x : F64) : (s.latchMapping f r x).res0 = s.res0 := rfl
@[simp] theorem latchMapping_res1 (f : F64) (r : BitVec 64) (x : F64) : (s.latchMapping f r x).res1 = s.res1 := rfl
@[simp] theorem latchMapping_resi (f : F64) (r : BitVec 64) (x : F64) : (s.latchMapping f r x).resi = s.resi := rfl
@[simp] theorem latchMapping_maxDb (f : F64) (r : BitVec 64) (x : F64) : (s.latchMapping f r x).maxDb = x := rfl
@[simp] theorem latchMapping_freqPerBin (f : F64) (r : BitVec 64) (x : F64) :
    (s.latchMapping f r x).freqPerBin = f := rfl
@[simp] theorem latchMapping_binRange (f : F64) (r : BitVec 64) (x : F64) : (s.latchMapping f r x).binRange = r := rfl
@[simp] theorem latchMapping_mem (f : F64) (r : BitVec 64) (x : F64) : (s.latchMapping f r x).mem = s.mem := rfl
@[simp] theorem latchMapping_drawPos (f : F64) (r : BitVec 64) (x : F64) :
    (s.latchMapping f r x).drawPos = s.drawPos := rfl
@[simp] theorem latchMapping_resetCount (f : F64) (r : BitVec 64) (x : F64) :
    (s.latchMapping f r x).resetCount = s.resetCount := rfl
@[simp] theorem latchMapping_hostQueue (f : F64) (r : BitVec 64) (x : F64) :
    (s.latchMapping f r x).hostQueue = s.hostQueue := rfl
@[simp] theorem latchMapping_response (f : F64) (r : BitVec 64) (x : F64) :
    (s.latchMapping f r x).response = s.response := rfl

/-! ### respond -/

@[simp] theorem respond_params (r : HostResponse) : (s.respond r).params = s.params := rfl
@[simp] theorem respond_err (r : HostResponse) : (s.respond r).err = s.err := rfl
@[simp] theorem respond_ecode (r : HostResponse) : (s.respond r).ecode = s.ecode := rfl
@[simp] theorem respond_specValid (r : HostResponse) : (s.respond r).specValid = s.specValid := rfl
@[simp] theorem respond_modcfg (r : HostResponse) : (s.respond r).modcfg = s.modcfg := rfl
@[simp] theorem respond_amplitude (r : HostResponse) : (s.respond r).amplitude = s.amplitude := rfl
@[simp] theorem respond_carrierFreq (r : HostResponse) : (s.respond r).carrierFreq = s.carrierFreq := rfl
@[simp] theorem respond_symbolPeriod (r : HostResponse) : (s.respond r).symbolPeriod = s.symbolPeriod := rfl
@[simp] theorem respond_rollOff (r : HostResponse) : (s.respond r).rollOff = s.rollOff := rfl
@[simp] theorem respond_samplingRate (r : HostResponse) : (s.respond r).samplingRate = s.samplingRate := rfl
@[simp] theorem respond_snrDb (r : HostResponse) : (s.respond r).snrDb = s.snrDb := rfl
@[simp] theorem respond_fftSize (r : HostResponse) : (s.respond r).fftSize = s.fftSize := rfl
@[simp] theorem respond_spectrumPower (r : HostResponse) : (s.respond r).spectrumPower = s.spectrumPower := rfl
@[simp] theorem respond_centerFreq (r : HostResponse) : (s.respond r).centerFreq = s.centerFreq := rfl
@[simp] theorem respond_span (r : HostResponse) : (s.respond r).span = s.span := rfl
@[simp] theorem respond_timeOffset (r : HostResponse) : (s.respond r).timeOffset = s.timeOffset := rfl
@[simp] theorem respond_msgLen (r : HostResponse) : (s.respond r).msgLen = s.msgLen := rfl
@[simp] theorem respond_count (r : HostResponse) : (s.respond r).count = s.count := rfl
@[simp] theorem respond_phase (r : HostResponse) : (s.respond r).phase = s.phase := rfl
@[simp] theorem respond_arg0 (r : HostResponse) : (s.respond r).arg0 = s.arg0 := rfl
@[simp] theorem respond_arg1 (r : HostResponse) : (s.respond r).arg1 = s.arg1 := rfl
@[simp] theorem respond_arg2 (r : HostResponse) : (s.respond r).arg2 = s.arg2 := rfl
@[simp] theorem respond_argi (r : HostResponse) : (s.respond r).argi = s.argi := rfl
@[simp] theorem respond_res0 (r : HostResponse) : (s.respond r).res0 = s.res0 := rfl
@[simp] theorem respond_res1 (r : HostResponse) : (s.respond r).res1 = s.res1 := rfl
@[simp] theorem respond_resi (r : HostResponse) : (s.respond r).resi = s.resi := rfl
@[simp] theorem respond_maxDb (r : HostResponse) : (s.respond r).maxDb = s.maxDb := rfl
@[simp] theorem respond_freqPerBin (r : HostResponse) : (s.respond r).freqPerBin = s.freqPerBin := rfl
@[simp] theorem respond_binRange (r : HostResponse) : (s.respond r).binRange = s.binRange := rfl
@[simp] theorem respond_mem (r : HostResponse) : (s.respond r).mem = s.mem := rfl
@[simp] theorem respond_drawPos (r : HostResponse) : (s.respond r).drawPos = s.drawPos := rfl
@[simp] theorem respond_resetCount (r : HostResponse) : (s.respond r).resetCount = s.resetCount := rfl
@[simp] theorem respond_hostQueue (r : HostResponse) : (s.respond r).hostQueue = s.hostQueue := rfl
@[simp] theorem respond_response (r : HostResponse) : (s.respond r).response = r := rfl

/-! ### recordSuccess -/

@[simp] theorem recordSuccess_params : (s.recordSuccess).params = s.params := rfl
@[simp] theorem recordSuccess_err : (s.recordSuccess).err = false := rfl
@[simp] theorem recordSuccess_ecode : (s.recordSuccess).ecode = 0 := rfl
@[simp] theorem recordSuccess_specValid : (s.recordSuccess).specValid = s.specValid := rfl
@[simp] theorem recordSuccess_modcfg : (s.recordSuccess).modcfg = s.modcfg := rfl
@[simp] theorem recordSuccess_amplitude : (s.recordSuccess).amplitude = s.amplitude := rfl
@[simp] theorem recordSuccess_carrierFreq : (s.recordSuccess).carrierFreq = s.carrierFreq := rfl
@[simp] theorem recordSuccess_symbolPeriod : (s.recordSuccess).symbolPeriod = s.symbolPeriod := rfl
@[simp] theorem recordSuccess_rollOff : (s.recordSuccess).rollOff = s.rollOff := rfl
@[simp] theorem recordSuccess_samplingRate : (s.recordSuccess).samplingRate = s.samplingRate := rfl
@[simp] theorem recordSuccess_snrDb : (s.recordSuccess).snrDb = s.snrDb := rfl
@[simp] theorem recordSuccess_fftSize : (s.recordSuccess).fftSize = s.fftSize := rfl
@[simp] theorem recordSuccess_spectrumPower : (s.recordSuccess).spectrumPower = s.spectrumPower := rfl
@[simp] theorem recordSuccess_centerFreq : (s.recordSuccess).centerFreq = s.centerFreq := rfl
@[simp] theorem recordSuccess_span : (s.recordSuccess).span = s.span := rfl
@[simp] theorem recordSuccess_timeOffset : (s.recordSuccess).timeOffset = s.timeOffset := rfl
@[simp] theorem recordSuccess_msgLen : (s.recordSuccess).msgLen = s.msgLen := rfl
@[simp] theorem recordSuccess_count : (s.recordSuccess).count = s.count := rfl
@[simp] theorem recordSuccess_phase : (s.recordSuccess).phase = s.phase := rfl
@[simp] theorem recordSuccess_arg0 : (s.recordSuccess).arg0 = s.arg0 := rfl
@[simp] theorem recordSuccess_arg1 : (s.recordSuccess).arg1 = s.arg1 := rfl
@[simp] theorem recordSuccess_arg2 : (s.recordSuccess).arg2 = s.arg2 := rfl
@[simp] theorem recordSuccess_argi : (s.recordSuccess).argi = s.argi := rfl
@[simp] theorem recordSuccess_res0 : (s.recordSuccess).res0 = s.res0 := rfl
@[simp] theorem recordSuccess_res1 : (s.recordSuccess).res1 = s.res1 := rfl
@[simp] theorem recordSuccess_resi : (s.recordSuccess).resi = s.resi := rfl
@[simp] theorem recordSuccess_maxDb : (s.recordSuccess).maxDb = s.maxDb := rfl
@[simp] theorem recordSuccess_freqPerBin : (s.recordSuccess).freqPerBin = s.freqPerBin := rfl
@[simp] theorem recordSuccess_binRange : (s.recordSuccess).binRange = s.binRange := rfl
@[simp] theorem recordSuccess_mem : (s.recordSuccess).mem = s.mem := rfl
@[simp] theorem recordSuccess_drawPos : (s.recordSuccess).drawPos = s.drawPos := rfl
@[simp] theorem recordSuccess_resetCount : (s.recordSuccess).resetCount = s.resetCount := rfl
@[simp] theorem recordSuccess_hostQueue : (s.recordSuccess).hostQueue = s.hostQueue := rfl
@[simp] theorem recordSuccess_response : (s.recordSuccess).response = s.response := rfl

/-! ### recordError -/

@[simp] theorem recordError_params (e : CmdError) : (s.recordError e).params = s.params := rfl
@[simp] theorem recordError_err (e : CmdError) : (s.recordError e).err = true := rfl
@[simp] theorem recordError_ecode (e : CmdError) : (s.recordError e).ecode = e.code := rfl
@[simp] theorem recordError_specValid (e : CmdError) : (s.recordError e).specValid = s.specValid := rfl
@[simp] theorem recordError_modcfg (e : CmdError) : (s.recordError e).modcfg = s.modcfg := rfl
@[simp] theorem recordError_amplitude (e : CmdError) : (s.recordError e).amplitude = s.amplitude := rfl
@[simp] theorem recordError_carrierFreq (e : CmdError) : (s.recordError e).carrierFreq = s.carrierFreq := rfl
@[simp] theorem recordError_symbolPeriod (e : CmdError) : (s.recordError e).symbolPeriod = s.symbolPeriod := rfl
@[simp] theorem recordError_rollOff (e : CmdError) : (s.recordError e).rollOff = s.rollOff := rfl
@[simp] theorem recordError_samplingRate (e : CmdError) : (s.recordError e).samplingRate = s.samplingRate := rfl
@[simp] theorem recordError_snrDb (e : CmdError) : (s.recordError e).snrDb = s.snrDb := rfl
@[simp] theorem recordError_fftSize (e : CmdError) : (s.recordError e).fftSize = s.fftSize := rfl
@[simp] theorem recordError_spectrumPower (e : CmdError) : (s.recordError e).spectrumPower = s.spectrumPower := rfl
@[simp] theorem recordError_centerFreq (e : CmdError) : (s.recordError e).centerFreq = s.centerFreq := rfl
@[simp] theorem recordError_span (e : CmdError) : (s.recordError e).span = s.span := rfl
@[simp] theorem recordError_timeOffset (e : CmdError) : (s.recordError e).timeOffset = s.timeOffset := rfl
@[simp] theorem recordError_msgLen (e : CmdError) : (s.recordError e).msgLen = s.msgLen := rfl
@[simp] theorem recordError_count (e : CmdError) : (s.recordError e).count = s.count := rfl
@[simp] theorem recordError_phase (e : CmdError) : (s.recordError e).phase = s.phase := rfl
@[simp] theorem recordError_arg0 (e : CmdError) : (s.recordError e).arg0 = s.arg0 := rfl
@[simp] theorem recordError_arg1 (e : CmdError) : (s.recordError e).arg1 = s.arg1 := rfl
@[simp] theorem recordError_arg2 (e : CmdError) : (s.recordError e).arg2 = s.arg2 := rfl
@[simp] theorem recordError_argi (e : CmdError) : (s.recordError e).argi = s.argi := rfl
@[simp] theorem recordError_res0 (e : CmdError) : (s.recordError e).res0 = s.res0 := rfl
@[simp] theorem recordError_res1 (e : CmdError) : (s.recordError e).res1 = s.res1 := rfl
@[simp] theorem recordError_resi (e : CmdError) : (s.recordError e).resi = s.resi := rfl
@[simp] theorem recordError_maxDb (e : CmdError) : (s.recordError e).maxDb = s.maxDb := rfl
@[simp] theorem recordError_freqPerBin (e : CmdError) : (s.recordError e).freqPerBin = s.freqPerBin := rfl
@[simp] theorem recordError_binRange (e : CmdError) : (s.recordError e).binRange = s.binRange := rfl
@[simp] theorem recordError_mem (e : CmdError) : (s.recordError e).mem = s.mem := rfl
@[simp] theorem recordError_drawPos (e : CmdError) : (s.recordError e).drawPos = s.drawPos := rfl
@[simp] theorem recordError_resetCount (e : CmdError) : (s.recordError e).resetCount = s.resetCount := rfl
@[simp] theorem recordError_hostQueue (e : CmdError) : (s.recordError e).hostQueue = s.hostQueue := rfl
@[simp] theorem recordError_response (e : CmdError) : (s.recordError e).response = s.response := rfl

/-! ### memWrite -/

@[simp] theorem memWrite_params (a n : Nat) (v : Word) : (memWrite s a n v).params = s.params := rfl
@[simp] theorem memWrite_err (a n : Nat) (v : Word) : (memWrite s a n v).err = s.err := rfl
@[simp] theorem memWrite_ecode (a n : Nat) (v : Word) : (memWrite s a n v).ecode = s.ecode := rfl
@[simp] theorem memWrite_specValid (a n : Nat) (v : Word) : (memWrite s a n v).specValid = s.specValid := rfl
@[simp] theorem memWrite_modcfg (a n : Nat) (v : Word) : (memWrite s a n v).modcfg = s.modcfg := rfl
@[simp] theorem memWrite_amplitude (a n : Nat) (v : Word) : (memWrite s a n v).amplitude = s.amplitude := rfl
@[simp] theorem memWrite_carrierFreq (a n : Nat) (v : Word) : (memWrite s a n v).carrierFreq = s.carrierFreq := rfl
@[simp] theorem memWrite_symbolPeriod (a n : Nat) (v : Word) : (memWrite s a n v).symbolPeriod = s.symbolPeriod := rfl
@[simp] theorem memWrite_rollOff (a n : Nat) (v : Word) : (memWrite s a n v).rollOff = s.rollOff := rfl
@[simp] theorem memWrite_samplingRate (a n : Nat) (v : Word) : (memWrite s a n v).samplingRate = s.samplingRate := rfl
@[simp] theorem memWrite_snrDb (a n : Nat) (v : Word) : (memWrite s a n v).snrDb = s.snrDb := rfl
@[simp] theorem memWrite_fftSize (a n : Nat) (v : Word) : (memWrite s a n v).fftSize = s.fftSize := rfl
@[simp] theorem memWrite_spectrumPower (a n : Nat) (v : Word) :
    (memWrite s a n v).spectrumPower = s.spectrumPower := rfl
@[simp] theorem memWrite_centerFreq (a n : Nat) (v : Word) : (memWrite s a n v).centerFreq = s.centerFreq := rfl
@[simp] theorem memWrite_span (a n : Nat) (v : Word) : (memWrite s a n v).span = s.span := rfl
@[simp] theorem memWrite_timeOffset (a n : Nat) (v : Word) : (memWrite s a n v).timeOffset = s.timeOffset := rfl
@[simp] theorem memWrite_msgLen (a n : Nat) (v : Word) : (memWrite s a n v).msgLen = s.msgLen := rfl
@[simp] theorem memWrite_count (a n : Nat) (v : Word) : (memWrite s a n v).count = s.count := rfl
@[simp] theorem memWrite_phase (a n : Nat) (v : Word) : (memWrite s a n v).phase = s.phase := rfl
@[simp] theorem memWrite_arg0 (a n : Nat) (v : Word) : (memWrite s a n v).arg0 = s.arg0 := rfl
@[simp] theorem memWrite_arg1 (a n : Nat) (v : Word) : (memWrite s a n v).arg1 = s.arg1 := rfl
@[simp] theorem memWrite_arg2 (a n : Nat) (v : Word) : (memWrite s a n v).arg2 = s.arg2 := rfl
@[simp] theorem memWrite_argi (a n : Nat) (v : Word) : (memWrite s a n v).argi = s.argi := rfl
@[simp] theorem memWrite_res0 (a n : Nat) (v : Word) : (memWrite s a n v).res0 = s.res0 := rfl
@[simp] theorem memWrite_res1 (a n : Nat) (v : Word) : (memWrite s a n v).res1 = s.res1 := rfl
@[simp] theorem memWrite_resi (a n : Nat) (v : Word) : (memWrite s a n v).resi = s.resi := rfl
@[simp] theorem memWrite_maxDb (a n : Nat) (v : Word) : (memWrite s a n v).maxDb = s.maxDb := rfl
@[simp] theorem memWrite_freqPerBin (a n : Nat) (v : Word) : (memWrite s a n v).freqPerBin = s.freqPerBin := rfl
@[simp] theorem memWrite_binRange (a n : Nat) (v : Word) : (memWrite s a n v).binRange = s.binRange := rfl
@[simp] theorem memWrite_mem (a n : Nat) (v : Word) :
    (memWrite s a n v).mem = Memory.writeBytes s.mem a (leBytes n v.toNat) := rfl
@[simp] theorem memWrite_drawPos (a n : Nat) (v : Word) : (memWrite s a n v).drawPos = s.drawPos := rfl
@[simp] theorem memWrite_resetCount (a n : Nat) (v : Word) : (memWrite s a n v).resetCount = s.resetCount := rfl
@[simp] theorem memWrite_hostQueue (a n : Nat) (v : Word) : (memWrite s a n v).hostQueue = s.hostQueue := rfl
@[simp] theorem memWrite_response (a n : Nat) (v : Word) : (memWrite s a n v).response = s.response := rfl

/-! ### writeElements -/

@[simp] theorem writeElements_params (r : Region) (xs : List F64) : (writeElements s r xs).params = s.params := rfl
@[simp] theorem writeElements_err (r : Region) (xs : List F64) : (writeElements s r xs).err = s.err := rfl
@[simp] theorem writeElements_ecode (r : Region) (xs : List F64) : (writeElements s r xs).ecode = s.ecode := rfl
@[simp] theorem writeElements_specValid (r : Region) (xs : List F64) :
    (writeElements s r xs).specValid = s.specValid := rfl
@[simp] theorem writeElements_modcfg (r : Region) (xs : List F64) : (writeElements s r xs).modcfg = s.modcfg := rfl
@[simp] theorem writeElements_amplitude (r : Region) (xs : List F64) :
    (writeElements s r xs).amplitude = s.amplitude := rfl
@[simp] theorem writeElements_carrierFreq (r : Region) (xs : List F64) :
    (writeElements s r xs).carrierFreq = s.carrierFreq := rfl
@[simp] theorem writeElements_symbolPeriod (r : Region) (xs : List F64) :
    (writeElements s r xs).symbolPeriod = s.symbolPeriod := rfl
@[simp] theorem writeElements_rollOff (r : Region) (xs : List F64) : (writeElements s r xs).rollOff = s.rollOff := rfl
@[simp] theorem writeElements_samplingRate (r : Region) (xs : List F64) :
    (writeElements s r xs).samplingRate = s.samplingRate := rfl
@[simp] theorem writeElements_snrDb (r : Region) (xs : List F64) : (writeElements s r xs).snrDb = s.snrDb := rfl
@[simp] theorem writeElements_fftSize (r : Region) (xs : List F64) : (writeElements s r xs).fftSize = s.fftSize := rfl
@[simp] theorem writeElements_spectrumPower (r : Region) (xs : List F64) :
    (writeElements s r xs).spectrumPower = s.spectrumPower := rfl
@[simp] theorem writeElements_centerFreq (r : Region) (xs : List F64) :
    (writeElements s r xs).centerFreq = s.centerFreq := rfl
@[simp] theorem writeElements_span (r : Region) (xs : List F64) : (writeElements s r xs).span = s.span := rfl
@[simp] theorem writeElements_timeOffset (r : Region) (xs : List F64) :
    (writeElements s r xs).timeOffset = s.timeOffset := rfl
@[simp] theorem writeElements_msgLen (r : Region) (xs : List F64) : (writeElements s r xs).msgLen = s.msgLen := rfl
@[simp] theorem writeElements_count (r : Region) (xs : List F64) : (writeElements s r xs).count = s.count := rfl
@[simp] theorem writeElements_phase (r : Region) (xs : List F64) : (writeElements s r xs).phase = s.phase := rfl
@[simp] theorem writeElements_arg0 (r : Region) (xs : List F64) : (writeElements s r xs).arg0 = s.arg0 := rfl
@[simp] theorem writeElements_arg1 (r : Region) (xs : List F64) : (writeElements s r xs).arg1 = s.arg1 := rfl
@[simp] theorem writeElements_arg2 (r : Region) (xs : List F64) : (writeElements s r xs).arg2 = s.arg2 := rfl
@[simp] theorem writeElements_argi (r : Region) (xs : List F64) : (writeElements s r xs).argi = s.argi := rfl
@[simp] theorem writeElements_res0 (r : Region) (xs : List F64) : (writeElements s r xs).res0 = s.res0 := rfl
@[simp] theorem writeElements_res1 (r : Region) (xs : List F64) : (writeElements s r xs).res1 = s.res1 := rfl
@[simp] theorem writeElements_resi (r : Region) (xs : List F64) : (writeElements s r xs).resi = s.resi := rfl
@[simp] theorem writeElements_maxDb (r : Region) (xs : List F64) : (writeElements s r xs).maxDb = s.maxDb := rfl
@[simp] theorem writeElements_freqPerBin (r : Region) (xs : List F64) :
    (writeElements s r xs).freqPerBin = s.freqPerBin := rfl
@[simp] theorem writeElements_binRange (r : Region) (xs : List F64) :
    (writeElements s r xs).binRange = s.binRange := rfl
@[simp] theorem writeElements_mem (r : Region) (xs : List F64) :
    (writeElements s r xs).mem = Memory.writeBytes s.mem r.base (xs.flatMap (fun x => leBytes 8 x.toNat)) := rfl
@[simp] theorem writeElements_drawPos (r : Region) (xs : List F64) : (writeElements s r xs).drawPos = s.drawPos := rfl
@[simp] theorem writeElements_resetCount (r : Region) (xs : List F64) :
    (writeElements s r xs).resetCount = s.resetCount := rfl
@[simp] theorem writeElements_hostQueue (r : Region) (xs : List F64) :
    (writeElements s r xs).hostQueue = s.hostQueue := rfl
@[simp] theorem writeElements_response (r : Region) (xs : List F64) :
    (writeElements s r xs).response = s.response := rfl

/-! ### resetBlock -/

@[simp] theorem resetBlock_params : (resetBlock s).params = s.params := rfl
@[simp] theorem resetBlock_err : (resetBlock s).err = State.reset.err := rfl
@[simp] theorem resetBlock_ecode : (resetBlock s).ecode = State.reset.ecode := rfl
@[simp] theorem resetBlock_specValid : (resetBlock s).specValid = State.reset.specValid := rfl
@[simp] theorem resetBlock_modcfg : (resetBlock s).modcfg = State.reset.modcfg := rfl
@[simp] theorem resetBlock_amplitude : (resetBlock s).amplitude = State.reset.amplitude := rfl
@[simp] theorem resetBlock_carrierFreq : (resetBlock s).carrierFreq = State.reset.carrierFreq := rfl
@[simp] theorem resetBlock_symbolPeriod : (resetBlock s).symbolPeriod = State.reset.symbolPeriod := rfl
@[simp] theorem resetBlock_rollOff : (resetBlock s).rollOff = State.reset.rollOff := rfl
@[simp] theorem resetBlock_samplingRate : (resetBlock s).samplingRate = State.reset.samplingRate := rfl
@[simp] theorem resetBlock_snrDb : (resetBlock s).snrDb = State.reset.snrDb := rfl
@[simp] theorem resetBlock_fftSize : (resetBlock s).fftSize = State.reset.fftSize := rfl
@[simp] theorem resetBlock_spectrumPower : (resetBlock s).spectrumPower = State.reset.spectrumPower := rfl
@[simp] theorem resetBlock_centerFreq : (resetBlock s).centerFreq = State.reset.centerFreq := rfl
@[simp] theorem resetBlock_span : (resetBlock s).span = State.reset.span := rfl
@[simp] theorem resetBlock_timeOffset : (resetBlock s).timeOffset = State.reset.timeOffset := rfl
@[simp] theorem resetBlock_msgLen : (resetBlock s).msgLen = State.reset.msgLen := rfl
@[simp] theorem resetBlock_count : (resetBlock s).count = State.reset.count := rfl
@[simp] theorem resetBlock_phase : (resetBlock s).phase = State.reset.phase := rfl
@[simp] theorem resetBlock_arg0 : (resetBlock s).arg0 = State.reset.arg0 := rfl
@[simp] theorem resetBlock_arg1 : (resetBlock s).arg1 = State.reset.arg1 := rfl
@[simp] theorem resetBlock_arg2 : (resetBlock s).arg2 = State.reset.arg2 := rfl
@[simp] theorem resetBlock_argi : (resetBlock s).argi = State.reset.argi := rfl
@[simp] theorem resetBlock_res0 : (resetBlock s).res0 = State.reset.res0 := rfl
@[simp] theorem resetBlock_res1 : (resetBlock s).res1 = State.reset.res1 := rfl
@[simp] theorem resetBlock_resi : (resetBlock s).resi = State.reset.resi := rfl
@[simp] theorem resetBlock_maxDb : (resetBlock s).maxDb = State.reset.maxDb := rfl
@[simp] theorem resetBlock_freqPerBin : (resetBlock s).freqPerBin = State.reset.freqPerBin := rfl
@[simp] theorem resetBlock_binRange : (resetBlock s).binRange = State.reset.binRange := rfl
@[simp] theorem resetBlock_mem : (resetBlock s).mem = State.reset.mem := rfl
@[simp] theorem resetBlock_drawPos : (resetBlock s).drawPos = s.drawPos := rfl
@[simp] theorem resetBlock_resetCount : (resetBlock s).resetCount = s.resetCount + 1 := rfl
@[simp] theorem resetBlock_hostQueue : (resetBlock s).hostQueue = s.hostQueue := rfl
@[simp] theorem resetBlock_response : (resetBlock s).response = s.response := rfl

/-! ### windowInto -/

@[simp] theorem windowInto_params (xs : List F64) : (windowInto s xs).params = s.params := rfl
@[simp] theorem windowInto_err (xs : List F64) : (windowInto s xs).err = s.err := rfl
@[simp] theorem windowInto_ecode (xs : List F64) : (windowInto s xs).ecode = s.ecode := rfl
@[simp] theorem windowInto_specValid (xs : List F64) : (windowInto s xs).specValid = s.specValid := rfl
@[simp] theorem windowInto_modcfg (xs : List F64) : (windowInto s xs).modcfg = s.modcfg := rfl
@[simp] theorem windowInto_amplitude (xs : List F64) : (windowInto s xs).amplitude = s.amplitude := rfl
@[simp] theorem windowInto_carrierFreq (xs : List F64) : (windowInto s xs).carrierFreq = s.carrierFreq := rfl
@[simp] theorem windowInto_symbolPeriod (xs : List F64) : (windowInto s xs).symbolPeriod = s.symbolPeriod := rfl
@[simp] theorem windowInto_rollOff (xs : List F64) : (windowInto s xs).rollOff = s.rollOff := rfl
@[simp] theorem windowInto_samplingRate (xs : List F64) : (windowInto s xs).samplingRate = s.samplingRate := rfl
@[simp] theorem windowInto_snrDb (xs : List F64) : (windowInto s xs).snrDb = s.snrDb := rfl
@[simp] theorem windowInto_fftSize (xs : List F64) : (windowInto s xs).fftSize = s.fftSize := rfl
@[simp] theorem windowInto_spectrumPower (xs : List F64) : (windowInto s xs).spectrumPower = s.spectrumPower := rfl
@[simp] theorem windowInto_centerFreq (xs : List F64) : (windowInto s xs).centerFreq = s.centerFreq := rfl
@[simp] theorem windowInto_span (xs : List F64) : (windowInto s xs).span = s.span := rfl
@[simp] theorem windowInto_timeOffset (xs : List F64) : (windowInto s xs).timeOffset = s.timeOffset := rfl
@[simp] theorem windowInto_msgLen (xs : List F64) : (windowInto s xs).msgLen = s.msgLen := rfl
@[simp] theorem windowInto_count (xs : List F64) : (windowInto s xs).count = s.count := rfl
@[simp] theorem windowInto_phase (xs : List F64) : (windowInto s xs).phase = s.phase := rfl
@[simp] theorem windowInto_arg0 (xs : List F64) : (windowInto s xs).arg0 = s.arg0 := rfl
@[simp] theorem windowInto_arg1 (xs : List F64) : (windowInto s xs).arg1 = s.arg1 := rfl
@[simp] theorem windowInto_arg2 (xs : List F64) : (windowInto s xs).arg2 = s.arg2 := rfl
@[simp] theorem windowInto_argi (xs : List F64) : (windowInto s xs).argi = s.argi := rfl
@[simp] theorem windowInto_res0 (xs : List F64) : (windowInto s xs).res0 = s.res0 := rfl
@[simp] theorem windowInto_res1 (xs : List F64) : (windowInto s xs).res1 = s.res1 := rfl
@[simp] theorem windowInto_resi (xs : List F64) : (windowInto s xs).resi = s.resi := rfl
@[simp] theorem windowInto_maxDb (xs : List F64) : (windowInto s xs).maxDb = s.maxDb := rfl
@[simp] theorem windowInto_freqPerBin (xs : List F64) : (windowInto s xs).freqPerBin = s.freqPerBin := rfl
@[simp] theorem windowInto_binRange (xs : List F64) : (windowInto s xs).binRange = s.binRange := rfl
@[simp] theorem windowInto_drawPos (xs : List F64) : (windowInto s xs).drawPos = s.drawPos := rfl
@[simp] theorem windowInto_resetCount (xs : List F64) : (windowInto s xs).resetCount = s.resetCount := rfl
@[simp] theorem windowInto_hostQueue (xs : List F64) : (windowInto s xs).hostQueue = s.hostQueue := rfl
@[simp] theorem windowInto_response (xs : List F64) : (windowInto s xs).response = s.response := rfl

/-! ### transformBuffers -/

@[simp] theorem transformBuffers_params : (transformBuffers s).params = s.params := rfl
@[simp] theorem transformBuffers_err : (transformBuffers s).err = s.err := rfl
@[simp] theorem transformBuffers_ecode : (transformBuffers s).ecode = s.ecode := rfl
@[simp] theorem transformBuffers_specValid : (transformBuffers s).specValid = s.specValid := rfl
@[simp] theorem transformBuffers_modcfg : (transformBuffers s).modcfg = s.modcfg := rfl
@[simp] theorem transformBuffers_amplitude : (transformBuffers s).amplitude = s.amplitude := rfl
@[simp] theorem transformBuffers_carrierFreq : (transformBuffers s).carrierFreq = s.carrierFreq := rfl
@[simp] theorem transformBuffers_symbolPeriod : (transformBuffers s).symbolPeriod = s.symbolPeriod := rfl
@[simp] theorem transformBuffers_rollOff : (transformBuffers s).rollOff = s.rollOff := rfl
@[simp] theorem transformBuffers_samplingRate : (transformBuffers s).samplingRate = s.samplingRate := rfl
@[simp] theorem transformBuffers_snrDb : (transformBuffers s).snrDb = s.snrDb := rfl
@[simp] theorem transformBuffers_fftSize : (transformBuffers s).fftSize = s.fftSize := rfl
@[simp] theorem transformBuffers_spectrumPower : (transformBuffers s).spectrumPower = s.spectrumPower := rfl
@[simp] theorem transformBuffers_centerFreq : (transformBuffers s).centerFreq = s.centerFreq := rfl
@[simp] theorem transformBuffers_span : (transformBuffers s).span = s.span := rfl
@[simp] theorem transformBuffers_timeOffset : (transformBuffers s).timeOffset = s.timeOffset := rfl
@[simp] theorem transformBuffers_msgLen : (transformBuffers s).msgLen = s.msgLen := rfl
@[simp] theorem transformBuffers_count : (transformBuffers s).count = s.count := rfl
@[simp] theorem transformBuffers_phase : (transformBuffers s).phase = s.phase := rfl
@[simp] theorem transformBuffers_arg0 : (transformBuffers s).arg0 = s.arg0 := rfl
@[simp] theorem transformBuffers_arg1 : (transformBuffers s).arg1 = s.arg1 := rfl
@[simp] theorem transformBuffers_arg2 : (transformBuffers s).arg2 = s.arg2 := rfl
@[simp] theorem transformBuffers_argi : (transformBuffers s).argi = s.argi := rfl
@[simp] theorem transformBuffers_res0 : (transformBuffers s).res0 = s.res0 := rfl
@[simp] theorem transformBuffers_res1 : (transformBuffers s).res1 = s.res1 := rfl
@[simp] theorem transformBuffers_resi : (transformBuffers s).resi = s.resi := rfl
@[simp] theorem transformBuffers_maxDb : (transformBuffers s).maxDb = s.maxDb := rfl
@[simp] theorem transformBuffers_freqPerBin : (transformBuffers s).freqPerBin = s.freqPerBin := rfl
@[simp] theorem transformBuffers_binRange : (transformBuffers s).binRange = s.binRange := rfl
@[simp] theorem transformBuffers_drawPos : (transformBuffers s).drawPos = s.drawPos := rfl
@[simp] theorem transformBuffers_resetCount : (transformBuffers s).resetCount = s.resetCount := rfl
@[simp] theorem transformBuffers_hostQueue : (transformBuffers s).hostQueue = s.hostQueue := rfl
@[simp] theorem transformBuffers_response : (transformBuffers s).response = s.response := rfl

/-! ### fillPsd -/

@[simp] theorem fillPsd_params : (fillPsd s).params = s.params := rfl
@[simp] theorem fillPsd_err : (fillPsd s).err = s.err := rfl
@[simp] theorem fillPsd_ecode : (fillPsd s).ecode = s.ecode := rfl
@[simp] theorem fillPsd_specValid : (fillPsd s).specValid = s.specValid := rfl
@[simp] theorem fillPsd_modcfg : (fillPsd s).modcfg = s.modcfg := rfl
@[simp] theorem fillPsd_amplitude : (fillPsd s).amplitude = s.amplitude := rfl
@[simp] theorem fillPsd_carrierFreq : (fillPsd s).carrierFreq = s.carrierFreq := rfl
@[simp] theorem fillPsd_symbolPeriod : (fillPsd s).symbolPeriod = s.symbolPeriod := rfl
@[simp] theorem fillPsd_rollOff : (fillPsd s).rollOff = s.rollOff := rfl
@[simp] theorem fillPsd_samplingRate : (fillPsd s).samplingRate = s.samplingRate := rfl
@[simp] theorem fillPsd_snrDb : (fillPsd s).snrDb = s.snrDb := rfl
@[simp] theorem fillPsd_fftSize : (fillPsd s).fftSize = s.fftSize := rfl
@[simp] theorem fillPsd_spectrumPower : (fillPsd s).spectrumPower = s.spectrumPower := rfl
@[simp] theorem fillPsd_centerFreq : (fillPsd s).centerFreq = s.centerFreq := rfl
@[simp] theorem fillPsd_span : (fillPsd s).span = s.span := rfl
@[simp] theorem fillPsd_timeOffset : (fillPsd s).timeOffset = s.timeOffset := rfl
@[simp] theorem fillPsd_msgLen : (fillPsd s).msgLen = s.msgLen := rfl
@[simp] theorem fillPsd_count : (fillPsd s).count = s.count := rfl
@[simp] theorem fillPsd_phase : (fillPsd s).phase = s.phase := rfl
@[simp] theorem fillPsd_arg0 : (fillPsd s).arg0 = s.arg0 := rfl
@[simp] theorem fillPsd_arg1 : (fillPsd s).arg1 = s.arg1 := rfl
@[simp] theorem fillPsd_arg2 : (fillPsd s).arg2 = s.arg2 := rfl
@[simp] theorem fillPsd_argi : (fillPsd s).argi = s.argi := rfl
@[simp] theorem fillPsd_res0 : (fillPsd s).res0 = s.res0 := rfl
@[simp] theorem fillPsd_res1 : (fillPsd s).res1 = s.res1 := rfl
@[simp] theorem fillPsd_resi : (fillPsd s).resi = s.resi := rfl
@[simp] theorem fillPsd_maxDb : (fillPsd s).maxDb = s.maxDb := rfl
@[simp] theorem fillPsd_freqPerBin : (fillPsd s).freqPerBin = s.freqPerBin := rfl
@[simp] theorem fillPsd_binRange : (fillPsd s).binRange = s.binRange := rfl
@[simp] theorem fillPsd_drawPos : (fillPsd s).drawPos = s.drawPos := rfl
@[simp] theorem fillPsd_resetCount : (fillPsd s).resetCount = s.resetCount := rfl
@[simp] theorem fillPsd_hostQueue : (fillPsd s).hostQueue = s.hostQueue := rfl
@[simp] theorem fillPsd_response : (fillPsd s).response = s.response := rfl

/-! ### latchVisible -/

@[simp] theorem latchVisible_params : (latchVisible s).params = s.params := rfl
@[simp] theorem latchVisible_err : (latchVisible s).err = s.err := rfl
@[simp] theorem latchVisible_ecode : (latchVisible s).ecode = s.ecode := rfl
@[simp] theorem latchVisible_specValid : (latchVisible s).specValid = true := rfl
@[simp] theorem latchVisible_modcfg : (latchVisible s).modcfg = s.modcfg := rfl
@[simp] theorem latchVisible_amplitude : (latchVisible s).amplitude = s.amplitude := rfl
@[simp] theorem latchVisible_carrierFreq : (latchVisible s).carrierFreq = s.carrierFreq := rfl
@[simp] theorem latchVisible_symbolPeriod : (latchVisible s).symbolPeriod = s.symbolPeriod := rfl
@[simp] theorem latchVisible_rollOff : (latchVisible s).rollOff = s.rollOff := rfl
@[simp] theorem latchVisible_samplingRate : (latchVisible s).samplingRate = s.samplingRate := rfl
@[simp] theorem latchVisible_snrDb : (latchVisible s).snrDb = s.snrDb := rfl
@[simp] theorem latchVisible_fftSize : (latchVisible s).fftSize = s.fftSize := rfl
@[simp] theorem latchVisible_spectrumPower : (latchVisible s).spectrumPower = s.spectrumPower := rfl
@[simp] theorem latchVisible_centerFreq : (latchVisible s).centerFreq = s.centerFreq := rfl
@[simp] theorem latchVisible_span : (latchVisible s).span = s.span := rfl
@[simp] theorem latchVisible_timeOffset : (latchVisible s).timeOffset = s.timeOffset := rfl
@[simp] theorem latchVisible_msgLen : (latchVisible s).msgLen = s.msgLen := rfl
@[simp] theorem latchVisible_count : (latchVisible s).count = s.count := rfl
@[simp] theorem latchVisible_phase : (latchVisible s).phase = s.phase := rfl
@[simp] theorem latchVisible_arg0 : (latchVisible s).arg0 = s.arg0 := rfl
@[simp] theorem latchVisible_arg1 : (latchVisible s).arg1 = s.arg1 := rfl
@[simp] theorem latchVisible_arg2 : (latchVisible s).arg2 = s.arg2 := rfl
@[simp] theorem latchVisible_argi : (latchVisible s).argi = s.argi := rfl
@[simp] theorem latchVisible_res0 : (latchVisible s).res0 = s.res0 := rfl
@[simp] theorem latchVisible_res1 : (latchVisible s).res1 = s.res1 := rfl
@[simp] theorem latchVisible_resi : (latchVisible s).resi = s.resi := rfl
@[simp] theorem latchVisible_maxDb : (latchVisible s).maxDb = peak s (visibleBins s).1 (visibleBins s).2 := rfl
@[simp] theorem latchVisible_freqPerBin : (latchVisible s).freqPerBin = binWidth s := rfl
@[simp] theorem latchVisible_binRange : (latchVisible s).binRange = packRange (visibleBins s) := rfl
@[simp] theorem latchVisible_mem : (latchVisible s).mem = s.mem := rfl
@[simp] theorem latchVisible_drawPos : (latchVisible s).drawPos = s.drawPos := rfl
@[simp] theorem latchVisible_resetCount : (latchVisible s).resetCount = s.resetCount := rfl
@[simp] theorem latchVisible_hostQueue : (latchVisible s).hostQueue = s.hostQueue := rfl
@[simp] theorem latchVisible_response : (latchVisible s).response = s.response := rfl

end updates

end Sys2Proof.Machine
end

