-- ==== Sys2Proof/Laws/Memory.lean ====
section
/-!
SUPPORT. What the memory operations do, once for each: a read after a write, the canonical form, which
addresses are listed, and the bytes of numbers and elements.
-/

namespace Sys2Proof.Machine

/-! ### One byte -/

theorem Memory.lookup_write_self (m : Memory) (a : Nat) (b : Byte) :
    Memory.lookup (Memory.write m a b) a = some b := by
  induction m with
  | nil => simp [Memory.write, Memory.lookup]
  | cons c m ih =>
    unfold Memory.write
    split
    · simp [Memory.lookup]
    · split
      · simp [Memory.lookup]
      · rename_i h1 h2
        simp [Memory.lookup, ih, Ne.symm h2]

theorem Memory.lookup_write_other (m : Memory) {a a' : Nat} (b : Byte) (h : a' ≠ a) :
    Memory.lookup (Memory.write m a b) a' = Memory.lookup m a' := by
  induction m with
  | nil => simp [Memory.write, Memory.lookup, Ne.symm h]
  | cons c m ih =>
    unfold Memory.write
    split
    · simp [Memory.lookup, Ne.symm h]
    · split
      · rename_i h1 h2
        subst h2
        simp [Memory.lookup, Ne.symm h]
      · simp [Memory.lookup, ih]

/-- A written memory lists the written address and what it listed before, nothing else. -/
theorem Memory.mem_write {m : Memory} {a : Nat} {b : Byte} {c : Host.Cell} (h : c ∈ Memory.write m a b) :
    c = (a, b) ∨ c ∈ m := by
  induction m with
  | nil => simpa [Memory.write] using h
  | cons d m ih =>
    unfold Memory.write at h
    split at h
    · simpa using h
    · split at h
      · rcases List.mem_cons.mp h with h | h
        · exact .inl h
        · exact .inr (List.mem_cons_of_mem _ h)
      · rcases List.mem_cons.mp h with h | h
        · exact .inr (h ▸ List.mem_cons_self)
        · exact (ih h).imp_right (List.mem_cons_of_mem _)

/-- Writing a byte keeps the canonical form. -/
theorem Memory.wf_write {m : Memory} (h : Memory.wf m) (a : Nat) (b : Byte) : Memory.wf (Memory.write m a b) := by
  induction m with
  | nil => simp [Memory.write]
  | cons c m ih =>
    obtain ⟨hc, hm⟩ := List.pairwise_cons.mp h
    unfold Memory.write
    split
    · rename_i hlt
      refine List.pairwise_cons.mpr ⟨fun d hd => ?_, h⟩
      rcases List.mem_cons.mp hd with rfl | hd
      · exact hlt
      · exact Nat.lt_trans hlt (hc d hd)
    · split
      · rename_i heq
        exact List.pairwise_cons.mpr ⟨fun d hd => heq ▸ hc d hd, hm⟩
      · rename_i h1 h2
        refine List.pairwise_cons.mpr ⟨fun d hd => ?_, ih hm⟩
        rcases Memory.mem_write hd with rfl | hd
        · show c.1 < a
          omega
        · exact hc d hd

/-! ### A run of bytes -/

theorem Memory.wf_writeBytes {m : Memory} (h : Memory.wf m) (a : Nat) (bs : List Byte) :
    Memory.wf (Memory.writeBytes m a bs) := by
  induction bs generalizing m a with
  | nil => exact h
  | cons b bs ih => exact ih (Memory.wf_write h a b) (a + 1)

/-- A write of bytes leaves every address outside them alone. -/
theorem Memory.lookup_writeBytes_outside (m : Memory) (a : Nat) (bs : List Byte) {a' : Nat}
    (h : a' < a ∨ a + bs.length ≤ a') :
    Memory.lookup (Memory.writeBytes m a bs) a' = Memory.lookup m a' := by
  induction bs generalizing m a with
  | nil => rfl
  | cons b bs ih =>
    simp only [List.length_cons] at h
    rw [Memory.writeBytes, ih _ _ (by omega), Memory.lookup_write_other _ _ (by omega)]

/-- A write of bytes leaves each of them at its address. -/
theorem Memory.lookup_writeBytes_inside (m : Memory) (a : Nat) (bs : List Byte) {i : Nat} (h : i < bs.length) :
    Memory.lookup (Memory.writeBytes m a bs) (a + i) = some bs[i] := by
  induction bs generalizing m a i with
  | nil => simp at h
  | cons b bs ih =>
    cases i with
    | zero =>
      rw [Memory.writeBytes, Memory.lookup_writeBytes_outside _ _ _ (by omega)]
      exact Memory.lookup_write_self m a b
    | succ i =>
      have hi : i < bs.length := by simpa using h
      have := ih (Memory.write m a b) (a + 1) hi
      rw [Memory.writeBytes, show a + (i + 1) = a + 1 + i by omega, this]
      rfl

/-- A memory after a write of bytes lists only those addresses and what it listed before. -/
theorem Memory.mem_writeBytes {m : Memory} {a : Nat} {bs : List Byte} {c : Host.Cell}
    (h : c ∈ Memory.writeBytes m a bs) : (a ≤ c.1 ∧ c.1 < a + bs.length) ∨ c ∈ m := by
  induction bs generalizing m a with
  | nil => exact .inr h
  | cons b bs ih =>
    simp only [List.length_cons]
    rcases ih h with h | h
    · left; omega
    · rcases Memory.mem_write h with rfl | h
      · left; simp
      · exact .inr h

/-- Two memories in canonical form that answer every lookup alike are equal. -/
theorem Memory.lookup_ext {m m' : Memory} (hm : Memory.wf m) (hm' : Memory.wf m')
    (h : ∀ a, Memory.lookup m a = Memory.lookup m' a) : m = m' := by
  have none_of_lt : ∀ (m : Memory) (a : Nat), (∀ d ∈ m, a < d.1) → Memory.lookup m a = none := by
    intro m a
    induction m with
    | nil => intro _; rfl
    | cons d m ih =>
      intro hd
      have := hd d List.mem_cons_self
      simp only [Memory.lookup, show d.1 ≠ a by omega, if_false]
      exact ih fun e he => hd e (List.mem_cons_of_mem _ he)
  induction m generalizing m' with
  | nil =>
    cases m' with
    | nil => rfl
    | cons d m' => simpa [Memory.lookup] using h d.1
  | cons c m ih =>
    cases m' with
    | nil => simpa [Memory.lookup] using h c.1
    | cons d m' =>
      obtain ⟨hc, hmt⟩ := List.pairwise_cons.mp hm
      obtain ⟨hd, hmt'⟩ := List.pairwise_cons.mp hm'
      have h1 : c.1 = d.1 := by
        rcases Nat.lt_trichotomy c.1 d.1 with hlt | heq | hlt
        · have := h c.1
          rw [none_of_lt (d :: m') c.1 (by
            intro e he
            rcases List.mem_cons.mp he with rfl | he
            · exact hlt
            · exact Nat.lt_trans hlt (hd e he))] at this
          simp [Memory.lookup] at this
        · exact heq
        · have := h d.1
          rw [none_of_lt (c :: m) d.1 (by
            intro e he
            rcases List.mem_cons.mp he with rfl | he
            · exact hlt
            · exact Nat.lt_trans hlt (hc e he))] at this
          simp [Memory.lookup] at this
      have h2 : c.2 = d.2 := by
        have := h c.1
        simpa [Memory.lookup, h1] using this
      have hcd : c = d := Prod.ext h1 h2
      subst hcd
      congr 1
      refine ih hmt hmt' fun a => ?_
      by_cases ha : c.1 = a
      · subst ha
        rw [none_of_lt m c.1 hc, none_of_lt m' c.1 hd]
      · have := h a
        simpa [Memory.lookup, ha] using this

/-! ### Reading back -/

/-- A byte outside a write of bytes reads as before. -/
theorem readByte_writeBytes_outside (s : State) (a : Nat) (bs : List Byte) {a' : Nat}
    (h : a' < a ∨ a + bs.length ≤ a') :
    readByte (s.setMem (Memory.writeBytes s.mem a bs)) a' = readByte s a' := by
  simp only [readByte, setMem_mem, setMem_resetCount, Memory.lookup_writeBytes_outside _ _ _ h]

/-- A byte of a write of bytes reads as written. -/
theorem readByte_writeBytes_inside (s : State) (a : Nat) (bs : List Byte) {i : Nat} (h : i < bs.length) :
    readByte (s.setMem (Memory.writeBytes s.mem a bs)) (a + i) = bs[i] := by
  simp only [readByte, setMem_mem, Memory.lookup_writeBytes_inside _ _ _ h, Option.getD_some]

@[simp] theorem leBytes_length (n v : Nat) : (leBytes n v).length = n := by
  induction n generalizing v with
  | zero => rfl
  | succ n ih => simp [leBytes, ih]

/-- The value of the `n` low bytes of a number (spec/20_memory.md R72). -/
theorem leValue_leBytes (n v : Nat) : leValue (leBytes n v) = v % 256 ^ n := by
  induction n generalizing v with
  | zero => simp [leBytes, leValue, Nat.mod_one]
  | succ n ih =>
    have := Nat.mod_mul (x := v) (a := 256) (b := 256 ^ n)
    simp only [leBytes, leValue, ih, BitVec.toNat_ofNat, Nat.pow_succ']
    omega

@[simp] theorem readBytes_length (s : State) (a n : Nat) : (readBytes s a n).length = n := by
  simp [readBytes]

/-- Reading the bytes of a write gives them back. -/
theorem readBytes_writeBytes (s : State) (a : Nat) (bs : List Byte) {off n : Nat} (h : off + n ≤ bs.length) :
    readBytes (s.setMem (Memory.writeBytes s.mem a bs)) (a + off) n = (bs.drop off).take n := by
  apply List.ext_getElem
  · simp; omega
  · intro i h1 h2
    have hi : i < n := by simpa using h1
    simp only [readBytes, List.getElem_map, List.getElem_range, List.getElem_take, List.getElem_drop]
    rw [show a + off + i = a + (off + i) by omega, readByte_writeBytes_inside _ _ _ (by omega)]

/-- The bytes of a list of elements. -/
theorem elementBytes_length (xs : List F64) : (xs.flatMap (fun x => leBytes 8 x.toNat)).length = 8 * xs.length := by
  induction xs with
  | nil => rfl
  | cons x xs ih => simp [ih]; omega

theorem elementBytes_slice (xs : List F64) {i : Nat} (h : i < xs.length) :
    ((xs.flatMap (fun x => leBytes 8 x.toNat)).drop (8 * i)).take 8 = leBytes 8 (xs[i]).toNat := by
  induction xs generalizing i with
  | nil => simp at h
  | cons x xs ih =>
    cases i with
    | zero => simp
    | succ i =>
      have hi : i < xs.length := by simpa using h
      rw [List.flatMap_cons, show 8 * (i + 1) = (leBytes 8 x.toNat).length + 8 * i by simp; omega,
        List.drop_length_add_append]
      simpa using ih hi

/-- An element reads as it was written (spec/20_memory.md R81). -/
theorem readElement_writeElements_self (s : State) (r : Region) (xs : List F64) {i : Nat} (h : i < xs.length) :
    readElement (writeElements s r xs) r i = xs[i] := by
  have hl := elementBytes_length xs
  rw [readElement, memRead, writeElements, Region.element, readBytes_writeBytes _ _ _ (by omega),
    elementBytes_slice xs h, leValue_leBytes]
  apply BitVec.eq_of_toNat_eq
  have := xs[i].isLt
  simp only [BitVec.toNat_ofNat]
  omega

/-- An element whose bytes lie outside the elements written reads as before. -/
theorem readElement_writeElements_other (s : State) (r r' : Region) (xs : List F64) {i : Nat}
    (h : r'.element i + 8 ≤ r.base ∨ r.base + 8 * xs.length ≤ r'.element i) :
    readElement (writeElements s r xs) r' i = readElement s r' i := by
  have hl := elementBytes_length xs
  have : readBytes (writeElements s r xs) (r'.element i) 8 = readBytes s (r'.element i) 8 := by
    apply List.map_congr_left
    intro k hk
    have hk := List.mem_range.mp hk
    exact readByte_writeBytes_outside _ _ _ (by omega)
  rw [readElement, memRead, this, readElement, memRead]

/-! ### The canonical form is kept by every operation that writes memory, and holds at reset -/

theorem reset_memWf : Memory.wf State.reset.mem := List.Pairwise.nil

theorem memWrite_memWf {s : State} (h : Memory.wf s.mem) (a n : Nat) (v : Word) : Memory.wf (memWrite s a n v).mem :=
  Memory.wf_writeBytes h _ _

theorem writeElements_memWf {s : State} (h : Memory.wf s.mem) (r : Region) (xs : List F64) :
    Memory.wf (writeElements s r xs).mem :=
  Memory.wf_writeBytes h _ _

theorem windowInto_memWf {s : State} (h : Memory.wf s.mem) (xs : List F64) : Memory.wf (windowInto s xs).mem :=
  writeElements_memWf (writeElements_memWf h _ _) _ _

theorem transformBuffers_memWf {s : State} (h : Memory.wf s.mem) : Memory.wf (transformBuffers s).mem :=
  writeElements_memWf (writeElements_memWf h _ _) _ _

theorem fillPsd_memWf {s : State} (h : Memory.wf s.mem) : Memory.wf (fillPsd s).mem :=
  writeElements_memWf h _ _

theorem resetBlock_memWf (s : State) : Memory.wf (resetBlock s).mem := List.Pairwise.nil

end Sys2Proof.Machine
end

