-- ==== Sys2Proof/Laws/Ops.lean ====
section
/-!
SUPPORT. What the shared operations can do, said once each: the checks of a command, the bus target of
an access, a host access, and a step.
-/

namespace Sys2Proof.Machine

/-! ### Commands -/

@[simp] theorem firstFailure_nil : firstFailure [] = none := rfl

@[simp] theorem firstFailure_cons (b : Bool) (e : CmdError) (cs : List (Bool × CmdError)) :
    firstFailure ((b, e) :: cs) = if b then firstFailure cs else some e := rfl

theorem firstFailure_eq_none {cs : List (Bool × CmdError)} : firstFailure cs = none ↔ ∀ c ∈ cs, c.1 = true := by
  induction cs with
  | nil => simp
  | cons c cs ih => cases h : c.1 <;> simp [firstFailure, h, ih]

/-- The recorded error is that of a failed check, and every check before it holds. -/
theorem firstFailure_eq_some {cs : List (Bool × CmdError)} {e : CmdError} (h : firstFailure cs = some e) :
    ∃ before after, cs = before ++ (false, e) :: after ∧ ∀ c ∈ before, c.1 = true := by
  induction cs with
  | nil => simp at h
  | cons c cs ih =>
    obtain ⟨b, e'⟩ := c
    cases b with
    | false =>
      obtain rfl : e' = e := by simpa using h
      exact ⟨[], cs, rfl, by simp⟩
    | true =>
      obtain ⟨before, after, rfl, hb⟩ := ih (by simpa using h)
      exact ⟨(true, e') :: before, after, rfl, by simpa using hb⟩

/-- A command whose checks all hold has its effect and records success. -/
theorem guarded_pass {checks : List (Bool × CmdError)} {effect : State → State} {s : State}
    (h : firstFailure checks = none) : guarded checks effect s = .next (effect s).recordSuccess := by
  simp [guarded, h]

/-- A command with a failing check records its error and nothing else. -/
theorem guarded_fail {checks : List (Bool × CmdError)} {effect : State → State} {s : State} {e : CmdError}
    (h : firstFailure checks = some e) : guarded checks effect s = .next (s.recordError e) := by
  simp [guarded, h, raise]

/-- Everything a guarded command can do. -/
theorem guarded_cases {checks : List (Bool × CmdError)} {effect : State → State} {s t : State}
    (h : guarded checks effect s = .next t) :
    (∃ e, firstFailure checks = some e ∧ t = s.recordError e)
      ∨ (firstFailure checks = none ∧ t = (effect s).recordSuccess) := by
  cases hc : firstFailure checks with
  | some e =>
    rw [guarded_fail hc] at h
    exact .inl ⟨e, rfl, by injection h with h; exact h.symm⟩
  | none =>
    rw [guarded_pass hc] at h
    exact .inr ⟨rfl, by injection h with h; exact h.symm⟩

/-- The recorded code of an error is never 0. -/
theorem CmdError.code_ne_zero (e : CmdError) : e.code ≠ 0 := by cases e <;> decide

/-- No error code is above 6 (spec/60_exceptions.md R281). -/
theorem CmdError.code_le (e : CmdError) : e.code.toNat ≤ 6 := by cases e <;> decide

/-- Every command is its checks and then its effect (R283). -/
theorem exec_guarded (i : Instr) (s : State) : ∃ checks effect, exec i s = guarded checks effect s := by
  cases i <;>
    simp only [exec, execNop, execSinc, execRcos, execGetsym, execSample, execSweep, execIqpoint, execNoise,
      execWindow, execFft, execPower, execDbscalar, execBinmap, execSpectrum, execHover, execPack32] <;>
    exact ⟨_, _, rfl⟩

/-- A command whose meaning is `guarded` either records the error of a check or takes its effect. -/
theorem exec_cases {i : Instr} {s t : State} {checks : List (Bool × CmdError)} {effect : State → State}
    (hi : exec i s = guarded checks effect s) (h : exec i s = .next t) :
    (∃ e, firstFailure checks = some e ∧ t = s.recordError e)
      ∨ (firstFailure checks = none ∧ t = (effect s).recordSuccess) :=
  guarded_cases (hi ▸ h)

/-! ### The bus -/

/-- The region found holds all the bytes asked for. -/
theorem Region.holding_some {p : Config.Params} {a n : Nat} {r : Region} (h : Region.holding p a n = some r) :
    r.base ≤ a ∧ a + n ≤ r.base + r.size p := by
  have := List.find?_some h
  simpa using this

/-- An access with a target is aligned, its bytes lie in the region's mapped part, and the region takes
its width. -/
theorem busTarget_ok {p : Config.Params} {addr : Addr} {w : AccessWidth} {r : Region}
    (h : busTarget p addr w = .ok r) :
    addr.toNat % w.bytes = 0 ∧ r.base ≤ addr.toNat ∧ addr.toNat + w.bytes ≤ r.base + r.size p
      ∧ r.admits w = true := by
  unfold busTarget at h
  split at h
  · cases h
  · rename_i hal
    split at h
    · cases h
    · rename_i r' hr
      split at h
      · rename_i hw
        obtain rfl : r' = r := by injection h
        obtain ⟨h1, h2⟩ := Region.holding_some hr
        exact ⟨not_not.mp hal, h1, h2, hw⟩
      · cases h

/-- Everything a read can do: data or a bus error, and the block is unchanged. -/
theorem hostRead_cases {addr : Addr} {w : AccessWidth} {s : State} :
    (∃ v, busRead s addr w = .ok v ∧ hostRead addr w s = .next (s.respond (.readData v)))
      ∨ (busRead s addr w = .error .busError ∧ hostRead addr w s = .next (s.respond .busError)) := by
  cases h : busRead s addr w with
  | ok v => exact .inl ⟨v, rfl, by simp [hostRead, h]⟩
  | error f => cases f; exact .inr ⟨rfl, by simp [hostRead, h, respondBusError]⟩

/-- Everything a write can do: a bus error, a command, a register or a memory written. -/
theorem hostWrite_cases {addr : Addr} {w : AccessWidth} {v : Word} {s : State} :
    hostWrite addr w v s = .next (s.respond .busError)
      ∨ (busTarget s.params addr w = .ok .registers ∧ RegName.ofOffset addr.toNat = some .cmd
          ∧ hostWrite addr w v s = completeWith .writeDone (runCommand (v.setWidth 32) s))
      ∨ (∃ r, busTarget s.params addr w = .ok .registers ∧ RegName.ofOffset addr.toNat = some r ∧ r ≠ .cmd
          ∧ hostWrite addr w v s = .next ((writeReg r v s).respond .writeDone))
      ∨ (∃ r, busTarget s.params addr w = .ok r ∧ r ≠ .registers
          ∧ hostWrite addr w v s = .next ((memWrite s addr.toNat w.bytes v).respond .writeDone)) := by
  cases h : busTarget s.params addr w with
  | error f => cases f; left; simp [hostWrite, h, respondBusError]
  | ok r =>
    by_cases hr : r = .registers
    · subst hr
      cases ho : RegName.ofOffset addr.toNat with
      | none => left; simp [hostWrite, h, ho, respondBusError]
      | some q =>
        by_cases hq : q = .cmd
        · subst hq
          right; left
          exact ⟨rfl, rfl, by simp [hostWrite, h, ho]⟩
        · right; right; left
          exact ⟨q, rfl, rfl, hq, by cases q <;> simp_all [hostWrite]⟩
    · right; right; right
      exact ⟨r, rfl, hr, by cases r <;> simp_all [hostWrite]⟩

/-! ### Steps -/

/-- With no access pending the block is idle. -/
theorem step_idle {s : State} (h : s.hostQueue = []) : step s = .next s := by
  simp [step, hostStep, h]

/-- With an access pending a step performs it. -/
theorem step_access {s : State} {a : HostAccess} {rest : List HostAccess} (h : s.hostQueue = a :: rest) :
    step s = performAccess a { s with hostQueue := rest } := by
  simp [step, hostStep, h]

/-- Everything a step can do. -/
theorem step_cases (s : State) :
    (s.hostQueue = [] ∧ step s = .next s)
      ∨ ∃ a rest, s.hostQueue = a :: rest ∧ step s = performAccess a { s with hostQueue := rest } := by
  cases h : s.hostQueue with
  | nil => exact .inl ⟨rfl, step_idle h⟩
  | cons a rest => exact .inr ⟨a, rest, rfl, step_access h⟩

end Sys2Proof.Machine
end

