-- ==== Sys2Proof/Laws/PerInstr.lean ====
section
/-!
SUPPORT. Facts about every instruction, made one lemma for each constructor: an instruction is well
formed, and the word that stands for it has exactly its fields.
-/

namespace Sys2Proof.Laws.Encoding

/-- The word of `i` is legal and its fields are those of `i` (spec/30_encoding.md R101 to R103). -/
def Statement (i : Instr) : Prop := i.wellFormed = true ∧ CmdFields.ofWord (encode i) = i.fields

theorem nop : Statement .nop := by
  exact ⟨by decide, by decide⟩

theorem sinc : Statement .sinc := by
  exact ⟨by decide, by decide⟩

theorem rcos : Statement .rcos := by
  exact ⟨by decide, by decide⟩

theorem getsym : Statement .getsym := by
  exact ⟨by decide, by decide⟩

theorem sample (im : IndexMode) (nz : Bool) : Statement (.sample im nz) := by
  cases im <;> cases nz <;> exact ⟨by decide, by decide⟩

theorem sweep (im : IndexMode) (nz : Bool) (pr : Bool) : Statement (.sweep im nz pr) := by
  cases im <;> cases nz <;> cases pr <;> exact ⟨by decide, by decide⟩

theorem iqpoint (nz : Bool) : Statement (.iqpoint nz) := by
  cases nz <;> exact ⟨by decide, by decide⟩

theorem noise : Statement .noise := by
  exact ⟨by decide, by decide⟩

theorem window : Statement .window := by
  exact ⟨by decide, by decide⟩

theorem fft : Statement .fft := by
  exact ⟨by decide, by decide⟩

theorem power : Statement .power := by
  exact ⟨by decide, by decide⟩

theorem dbscalar : Statement .dbscalar := by
  exact ⟨by decide, by decide⟩

theorem binmap : Statement .binmap := by
  exact ⟨by decide, by decide⟩

theorem spectrum (nz : Bool) : Statement (.spectrum nz) := by
  cases nz <;> exact ⟨by decide, by decide⟩

theorem hover : Statement .hover := by
  exact ⟨by decide, by decide⟩

theorem pack32 : Statement .pack32 := by
  exact ⟨by decide, by decide⟩

end Sys2Proof.Laws.Encoding
end

