-- ==== Sys2Proof/Laws/Spectral.lean ====
section
/-!
SUPPORT. The complex buffers of the transform: reading an element after it is set, what one butterfly
does, and that no part of the transform changes their length.
-/

namespace Sys2Proof.Machine

/-- An element read after another, or the same, is set. -/
theorem cget_set (xs : List (F64 × F64)) (i j : Nat) (x : F64 × F64) (h : i < xs.length) :
    cget (xs.set i x) j = if j = i then x else cget xs j := by
  simp only [cget, List.getD_eq_getElem?_getD, List.getElem?_set]
  by_cases hj : i = j
  · subst hj; simp [h]
  · simp [hj, Ne.symm hj]

@[simp] theorem bitRevSwap_length (m : Nat) (xs : List (F64 × F64)) (i : Nat) :
    (bitRevSwap m xs i).length = xs.length := by
  unfold bitRevSwap; split <;> simp

@[simp] theorem butterfly_length (w : F64 × F64) (p q : Nat) (xs : List (F64 × F64)) :
    (butterfly w p q xs).length = xs.length := by simp [butterfly]

/-- A fold of steps that keep the length keeps the length. -/
theorem foldl_length {α β : Type} (f : List α → β → List α) (hf : ∀ xs b, (f xs b).length = xs.length)
    (bs : List β) (xs : List α) : (bs.foldl f xs).length = xs.length := by
  induction bs generalizing xs with
  | nil => rfl
  | cons b bs ih => rw [List.foldl_cons, ih, hf]

@[simp] theorem bitReverse_length (m : Nat) (xs : List (F64 × F64)) : (bitReverse m xs).length = xs.length :=
  foldl_length _ (bitRevSwap_length m) _ _

@[simp] theorem butterflyBlock_length (len base : Nat) (xs : List (F64 × F64)) :
    (butterflyBlock len base xs).length = xs.length :=
  foldl_length _ (fun _ _ => butterfly_length _ _ _ _) _ _

@[simp] theorem butterflyStage_length (n len : Nat) (xs : List (F64 × F64)) :
    (butterflyStage n len xs).length = xs.length :=
  foldl_length _ (fun _ _ => butterflyBlock_length _ _ _) _ _

@[simp] theorem butterflies_length (m : Nat) (xs : List (F64 × F64)) : (butterflies m xs).length = xs.length :=
  foldl_length _ (fun _ _ => butterflyStage_length _ _ _) _ _

@[simp] theorem fftTransform_length (n : Nat) (xs : List (F64 × F64)) : (fftTransform n xs).length = xs.length := by
  simp [fftTransform]

/-- The four values one butterfly computes, and that it leaves every other element alone
(spec/44_spectral.md R224). -/
theorem cget_butterfly (w : F64 × F64) {p q : Nat} (xs : List (F64 × F64)) (j : Nat) (hp : p < xs.length)
    (hq : q < xs.length) :
    cget (butterfly w p q xs) j =
      let xr := fsub (fmul (cget xs q).1 w.1) (fmul (cget xs q).2 w.2)
      let xi := fadd (fmul (cget xs q).1 w.2) (fmul (cget xs q).2 w.1)
      if j = p then (fadd (cget xs p).1 xr, fadd (cget xs p).2 xi)
      else if j = q then (fsub (cget xs p).1 xr, fsub (cget xs p).2 xi)
      else cget xs j := by
  simp only [butterfly]
  rw [cget_set _ _ _ _ (by simpa using hp), cget_set _ _ _ _ hq]

end Sys2Proof.Machine
end

