-- ==== Sys2Proof/Laws/Synth.lean ====
section
/-!
SUPPORT. What a block of samples holds, said once: how many draws a sample takes, and the length, the
phase, the draw position and each sample of `synthBlock`.
-/

namespace Sys2Proof.Machine

/-- The draws that one sample takes (spec/43_noise.md R202, R203). -/
theorem withNoise_drawPos (s : State) (nz : Bool) (y : F64) (pos : Nat) :
    (withNoise s nz y pos).2 = pos + (if nz && noiseOn s then 2 else 0) := by
  cases nz <;> cases h : noiseOn s <;> simp [withNoise, addNoise, h]

theorem synthBlock_length (s : State) (im : IndexMode) (nz : Bool) (ts : List F64) (ph : F64) (pos : Nat) :
    (synthBlock s im nz ts ph pos).samples.length = ts.length := by
  induction ts generalizing ph pos with
  | nil => rfl
  | cons t ts ih => simp [synthBlock, ih]

/-- The FSK phase is threaded through the samples in order (spec/42_synthesizer.md R170). -/
theorem synthBlock_phase (s : State) (im : IndexMode) (nz : Bool) (ts : List F64) (ph : F64) (pos : Nat) :
    (synthBlock s im nz ts ph pos).phase = ts.foldl (fun ph t => (synth s t im ph).2) ph := by
  induction ts generalizing ph pos with
  | nil => rfl
  | cons t ts ih => simp only [synthBlock, List.foldl_cons, ih]

theorem synthBlock_drawPos (s : State) (im : IndexMode) (nz : Bool) (ts : List F64) (ph : F64) (pos : Nat) :
    (synthBlock s im nz ts ph pos).drawPos = pos + (if nz && noiseOn s then 2 else 0) * ts.length := by
  induction ts generalizing ph pos with
  | nil => simp [synthBlock]
  | cons t ts ih => simp only [synthBlock, ih, withNoise_drawPos, List.length_cons]; ring

/-- Sample `i` of a block: the sample function after the phases of the earlier ones, and its own draws. -/
theorem synthBlock_sample (s : State) (im : IndexMode) (nz : Bool) (ts : List F64) (ph : F64) (pos i : Nat)
    (h : i < ts.length) :
    (synthBlock s im nz ts ph pos).samples[i]'(by rwa [synthBlock_length]) =
      (withNoise s nz (synth s ts[i] im ((ts.take i).foldl (fun ph t => (synth s t im ph).2) ph)).1
        (pos + (if nz && noiseOn s then 2 else 0) * i)).1 := by
  induction ts generalizing ph pos i with
  | nil => simp at h
  | cons t ts ih =>
    cases i with
    | zero => simp [synthBlock]
    | succ i =>
      have h' : i < ts.length := by simpa using h
      simp only [synthBlock, List.getElem_cons_succ, List.take_succ_cons, List.foldl_cons]
      rw [ih _ _ _ h', withNoise_drawPos]
      congr 2
      ring

end Sys2Proof.Machine
end

