-- ==== Sys2Proof/Safety.lean ====
section
/-!
DEFINITION. What claims about a run are stated in: an outcome that goes on, the addresses the memories
occupy, and the invariant of the block's state.
-/

namespace Sys2Proof.Machine

/-- The outcome is a next state, not a fault and not a refusal. -/
def Completes (o : Host.Outcome State Fault Refusal) : Prop := ∃ t, o = .next t

/-- The five memories of spec/10_state.md R30, without the registers. -/
def Region.memories : List Region := [.msg, .re, .im, .psd, .xbuf]

/-- A bus address backed by one of the memories (spec/20_memory.md R71). -/
def isStorage (p : Config.Params) (a : Nat) : Bool :=
  Region.memories.any (fun r => decide (r.base ≤ a) && decide (a < r.base + r.size p))

/-- What holds of the block in every state a host can bring it to. -/
structure State.Inv (s : State) : Prop where
  /-- The memory keeps its canonical form. -/
  memWf : Memory.wf s.mem
  /-- Only addresses backed by storage are ever written (spec/20_memory.md R71, R76). -/
  memMapped : ∀ c ∈ s.mem, isStorage s.params c.1 = true
  /-- ECODE values 7 to 15 are never recorded (spec/60_exceptions.md R281). -/
  ecodeLegal : s.ecode.toNat ≤ 6
  /-- ECODE is 0 exactly when ERR is 0 (spec/10_state.md R35). -/
  errIffEcode : s.err = true ↔ s.ecode ≠ 0
  /-- A valid mapping holds at least one bin and lies inside the PSD buffer (spec/44_spectral.md R234). -/
  rangeLegal : s.specValid = true → startBin s < endBin s ∧ endBin s ≤ s.params.nMax / 2

end Sys2Proof.Machine
end

