-- ==== Sys2Proof/Certificates/Slice0/Obligations.lean ====
section
/-!
DEFINITION. The statements for the provers, in the order of spec/: encoding, the host and its bus, reset
and the invariant, what commands may change and record, the arithmetic, and then each command. `ok`
states are written as the whole next state, so that everything not named in them is unchanged.
-/

namespace Sys2Proof.Claims

open Sys2Proof Sys2Proof.Machine

/-- The mapped parts of the address map (spec/20_memory.md R71), byte by byte. -/
def Mapped (p : Config.Params) (a : Nat) : Prop :=
  a < 0xE0
    ∨ (0x010000 ≤ a ∧ a < 0x010000 + p.msgCap)
    ∨ (0x100000 ≤ a ∧ a < 0x100000 + 8 * p.nMax)
    ∨ (0x180000 ≤ a ∧ a < 0x180000 + 8 * p.nMax)
    ∨ (0x200000 ≤ a ∧ a < 0x200000 + 8 * (p.nMax / 2))
    ∨ (0x240000 ≤ a ∧ a < 0x240000 + 4 * p.nMax)

/-- Address `a` is one of the `n` bytes from `base`. -/
def Within (base n a : Nat) : Prop := base ≤ a ∧ a < base + n

/-- The bytes of memory a successful command stores to: the ranges R106 gives (spec/30_encoding.md), at
the addresses of R71. -/
def StoresTo (s : State) : Instr → Nat → Prop
  | .nop, _ | .sinc, _ | .rcos, _ | .getsym, _ | .sample _ _, _ | .iqpoint _, _ | .noise, _ => False
  | .dbscalar, _ | .binmap, _ | .hover, _ => False
  | .sweep _ _ _, a => Within 0x100000 (8 * s.count.toNat) a
  | .window, a => Within 0x100000 (8 * s.fftSize.toNat) a ∨ Within 0x180000 (8 * s.fftSize.toNat) a
  | .fft, a => Within 0x100000 (8 * s.fftSize.toNat) a ∨ Within 0x180000 (8 * s.fftSize.toNat) a
  | .power, a => Within 0x200000 (8 * (s.fftSize.toNat / 2)) a
  | .spectrum _, a =>
    Within 0x100000 (8 * s.fftSize.toNat) a ∨ Within 0x180000 (8 * s.fftSize.toNat) a
      ∨ Within 0x200000 (8 * (s.fftSize.toNat / 2)) a
  | .pack32, a => Within 0x240000 (4 * s.count.toNat) a

/-- A power of two that is at least 2 (spec/44_spectral.md R220). -/
def PowerOfTwoSize (n : Nat) : Prop := ∃ m, 1 ≤ m ∧ n = 2 ^ m

/-- A legal FFT size: a power of two from 2 to `N_MAX` (spec/10_state.md R44). -/
def LegalFftSize (s : State) : Prop := PowerOfTwoSize s.fftSize.toNat ∧ s.fftSize.toNat ≤ s.params.nMax

/-- The errors a command can raise besides ILLEGAL (the table of spec/60_exceptions.md R282), by code. -/
def RaisableCodes : Instr → List Nat
  | .nop | .sinc | .rcos => []
  | .getsym | .noise => [2]
  | .sample _ _ => [2, 4]
  | .sweep _ _ _ => [2, 3, 4]
  | .iqpoint _ => [2, 5]
  | .window | .fft | .power | .dbscalar | .binmap => [2, 3]
  | .spectrum _ => [2, 3, 4]
  | .hover => [2, 6]
  | .pack32 => [3]

/-- How many draws a successful command takes (spec/43_noise.md R202, R203). -/
def DrawsOf (s : State) : Instr → Nat
  | .sample _ nz => if nz && noiseOn s then 2 else 0
  | .sweep _ nz _ => if nz && noiseOn s then 2 * s.count.toNat else 0
  | .iqpoint nz => if nz && noiseOn s then 4 else 0
  | .noise => if noiseOn s then 2 else 0
  | .spectrum nz => if nz && noiseOn s && symbolCount s != 0 then 2 * s.fftSize.toNat else 0
  | .nop | .sinc | .rcos | .getsym | .window | .fft | .power | .dbscalar | .binmap | .hover | .pack32 => 0

/-- The registers the host writes and no command does: the first row of the table of
spec/10_state.md R61. -/
def SameConfiguration (s t : State) : Prop :=
  t.modcfg = s.modcfg ∧ t.amplitude = s.amplitude ∧ t.carrierFreq = s.carrierFreq
    ∧ t.symbolPeriod = s.symbolPeriod ∧ t.rollOff = s.rollOff ∧ t.samplingRate = s.samplingRate
    ∧ t.snrDb = s.snrDb ∧ t.fftSize = s.fftSize ∧ t.spectrumPower = s.spectrumPower
    ∧ t.centerFreq = s.centerFreq ∧ t.span = s.span ∧ t.timeOffset = s.timeOffset ∧ t.msgLen = s.msgLen
    ∧ t.count = s.count ∧ t.arg0 = s.arg0 ∧ t.arg1 = s.arg1 ∧ t.arg2 = s.arg2 ∧ t.argi = s.argi

/-- Two states on which a SWEEP of the same command computes the same: the same parameters, registers and
message (spec/45_export_control.md R274). -/
def SameExportInputs (s t : State) : Prop :=
  t.params = s.params ∧ SameConfiguration s t ∧ ∀ j < s.msgLen.toNat, msgByte t j = msgByte s j

/-- The offset of each register, as R33 tabulates it (spec/10_state.md). -/
def registerOffset : RegName → Nat
  | .id => 0x000 | .status => 0x008 | .cmd => 0x010 | .modcfg => 0x018 | .amplitude => 0x020
  | .carrierFreq => 0x028 | .symbolPeriod => 0x030 | .rollOff => 0x038 | .samplingRate => 0x040
  | .snrDb => 0x048 | .fftSize => 0x050 | .spectrumPower => 0x058 | .centerFreq => 0x060 | .span => 0x068
  | .timeOffset => 0x070 | .msgLen => 0x078 | .count => 0x080 | .phase => 0x088 | .arg0 => 0x090
  | .arg1 => 0x098 | .arg2 => 0x0A0 | .argi => 0x0A8 | .res0 => 0x0B0 | .res1 => 0x0B8 | .resi => 0x0C0
  | .maxDb => 0x0C8 | .freqPerBin => 0x0D0 | .binRange => 0x0D8

/-- `uniform()` of the draw at a position: `(f64(r) + 1.0) / (f64(RMAX) + 1.0)` (spec/43_noise.md R200). -/
def uniformAt (s : State) (pos : Nat) : F64 :=
  fdiv (fadd (ofNat (uniformDraw s pos)) 0x3FF0000000000000) (fadd (ofNat s.params.rMax) 0x3FF0000000000000)

/-- `gauss()` of the two draws at a position: `sqrt((-2.0) * ln(u1)) * cos(TWO_PI * u2)` (R201). -/
def gaussAt (s : State) (pos : Nat) : F64 :=
  fmul (fsqrt (fmul 0xC000000000000000 (Config.ln (uniformAt s pos))))
    (Config.cos (fmul TWO_PI (uniformAt s (pos + 1))))

/-- `pow(10.0, SNR_DB / 10.0)` (R204, R205). -/
def linearSnr (s : State) : F64 := Config.pow 0x4024000000000000 (fdiv s.snrDb 0x4024000000000000)

/-- A sample with the noise of R204 where NZ asks for it: `y + gauss() * sd`, with
`sd = sqrt(((A * A) / 2.0) / lin)`. -/
def noisySample (s : State) (nz : Bool) (y : F64) (pos : Nat) : F64 :=
  if nz = true ∧ flt s.snrDb 0x4059000000000000 = true then
    fadd y (fmul (gaussAt s pos)
      (fsqrt (fdiv (fdiv (fmul s.amplitude s.amplitude) 0x4000000000000000) (linearSnr s))))
  else y

/-- The draws one sample takes (R202, R203). -/
def drawsPerSample (s : State) (nz : Bool) : Nat :=
  if nz = true ∧ flt s.snrDb 0x4059000000000000 = true then 2 else 0

/-- The time of sample `i` of a block that starts at `t0`: `t0 + f64(i) / fs` (spec/42_synthesizer.md R169,
spec/44_spectral.md R240). -/
def gridTime (s : State) (t0 : F64) (i : Nat) : F64 := fadd t0 (fdiv (ofNat i) s.samplingRate)

/-- The FSK phase before sample `i` of a block: that of every earlier sample threaded in order (R170, R243). -/
def phaseBefore (s : State) (im : IndexMode) (t0 ph : F64) (i : Nat) : F64 :=
  (List.range i).foldl (fun ph j => (synth s (gridTime s t0 j) im ph).2) ph

/-- Sample `i` of a block, its noise taken from the draws in order of `i` (R170, R244). -/
def blockSample (s : State) (im : IndexMode) (nz : Bool) (t0 ph : F64) (i : Nat) : F64 :=
  noisySample s nz (synth s (gridTime s t0 i) im (phaseBefore s im t0 ph i)).1
    (s.drawPos + drawsPerSample s nz * i)

/-- The window weight of sample `i` (R221); a reserved WIN is no window, and the statements exclude it. -/
def windowWeight (s : State) (i : Nat) : F64 :=
  let theta := fdiv (fmul TWO_PI (ofNat i)) (ofNat (s.fftSize.toNat - 1))
  match winKind s with
  | .rectangular => 0x3FF0000000000000
  | .hann => fmul 0x3FE0000000000000 (fsub 0x3FF0000000000000 (Config.cos theta))
  | .hamming => fsub 0x3FE147AE147AE148 (fmul 0x3FDD70A3D70A3D71 (Config.cos theta))
  | .reserved => 0x3FF0000000000000

/-- The bin width `(fs / 2.0) / f64(N div 2)` (R231). -/
def widthOfBins (s : State) : F64 :=
  fdiv (fdiv s.samplingRate 0x4000000000000000) (ofNat (s.fftSize.toNat / 2))

/-- The dB scalar of a bin: `10.0 * log10(p / f64(N) + EPS12)`, with `p` the squared magnitude raised to
SPECTRUM_POWER unless that is 1.0 (R228). -/
def decibels (s : State) (re im : F64) : F64 :=
  let p0 := fadd (fmul re re) (fmul im im)
  let p := if feq s.spectrumPower 0x3FF0000000000000 then p0 else Config.pow p0 s.spectrumPower
  fmul 0x4024000000000000 (Config.log10 (fadd (fdiv p (ofNat s.fftSize.toNat)) 0x3D719799812DEA11))

/-- The visible range `[sb, eb)`: the ends `CENTER_FREQ - SPAN / 2.0` and `CENTER_FREQ + SPAN / 2.0` clamped to
`[0.0, nyq]` (R232), their bins `floor(f / fpb)` clamped to `[0, half]` (R233), widened to one bin inside
`[0, half)` (R234). -/
def visibleRange (s : State) : Nat × Nat :=
  let half := s.fftSize.toNat / 2
  let nyq := fdiv s.samplingRate 0x4000000000000000
  let clamped := fun x : F64 => if flt x 0 then 0 else if flt nyq x then nyq else x
  let lo := clamped (fsub s.centerFreq (fdiv s.span 0x4000000000000000))
  let hi := clamped (fadd s.centerFreq (fdiv s.span 0x4000000000000000))
  let bin := fun f : F64 => (min (max (ffloor (fdiv f (widthOfBins s))) 0) (half : Int)).toNat
  let sb := bin lo
  let eb := if bin hi ≤ sb then sb + 1 else bin hi
  if half < eb then (half - 1, half) else (sb, eb)

/-- The peak over the bins `[sb, eb)`: `PSD[sb]`, replaced by each later element that is strictly greater (R235). -/
def peakOver (s : State) (sb eb : Nat) : F64 :=
  (List.range (eb - sb - 1)).foldl
    (fun mx i => if flt mx (readElement s .psd (sb + 1 + i)) then readElement s .psd (sb + 1 + i) else mx)
    (readElement s .psd sb)

end Sys2Proof.Claims

open Sys2Proof Sys2Proof.Machine Sys2Proof.Claims

/-! ## Encoding -/

/-- R101, R102: decoding and encoding are inverse to each other: a word decodes to an instruction exactly
when it is that instruction's word. -/
def Obligations.DecodeInvertsEncode : Prop :=
  ∀ (w : CmdWord) (i : Instr), decode w = .ok i ↔ encode i = w

/-- R103: a word is one legal command exactly when its opcode is at most 0x0F, bits 31:10 are 0, the option
fields its opcode does not accept are 0 and, where the opcode accepts IM, IM is not 3; every other word
raises ILLEGAL, which records the error and does nothing else. -/
def Obligations.DecodeAcceptsExactlyLegalWords : Prop :=
  ∀ w : CmdWord,
    let opc := w.toNat % 64
    let im := w.toNat / 64 % 4
    let nz := w.toNat / 256 % 2
    let pr := w.toNat / 512 % 2
    let legal := opc ≤ 0x0F ∧ w.toNat / 1024 = 0
      ∧ (opc ∉ [0x04, 0x05] → im = 0) ∧ (opc ∉ [0x04, 0x05, 0x06, 0x0D] → nz = 0) ∧ (opc ≠ 0x05 → pr = 0)
      ∧ (opc ∈ [0x04, 0x05] → im ≠ 3)
    (legal → ∃ i, decode w = .ok i) ∧
      (¬ legal → ∀ s : State, runCommand w s = .next { s with err := true, ecode := 1 })

/-- The words of R108 and of the vectors V-ENC-8, V-ENC-9, V-ENC-12 and V-ENC-13 decode to their commands,
and those of V-ENC-2, V-ENC-3, V-ENC-7 and V-ENC-10 to none. -/
def Obligations.DecodePublishedWords : Prop :=
  decodeTableWord 32 0x00000184 = some (.sample .wrap true)
    ∧ decodeTableWord 32 0x00000245 = some (.sweep .bounded false true)
    ∧ decodeTableWord 32 0x0000010D = some (.spectrum true)
    ∧ decodeTableWord 32 0x00000305 = some (.sweep .skipneg true true)
    ∧ decodeTableWord 32 0x00000003 = some .getsym
    ∧ decodeTableWord 32 0x0000000F = some .pack32
    ∧ decodeTableWord 32 0x00000100 = none
    ∧ decodeTableWord 32 0x00000010 = none
    ∧ decodeTableWord 32 0x000000C4 = none
    ∧ decodeTableWord 32 0x0000020D = none

/-! ## The host and its bus -/

/-- R36: an aligned 8-byte write to CMD executes the word in bits 31:0 of the value, whatever bits 63:32
are, and the access completes after it; a word that decodes to no command is ILLEGAL; a read of CMD
returns 0 and executes nothing. -/
def Obligations.StepRunsDecodedCommand : Prop :=
  ∀ (s : State) (rest : List HostAccess),
    (∀ (v : Word) (i : Instr), s.hostQueue = .write 0x000010 .b8 v :: rest → decode (v.setWidth 32) = .ok i →
      step s = completeWith .writeDone (exec i { s with hostQueue := rest })) ∧
    (∀ v : Word, s.hostQueue = .write 0x000010 .b8 v :: rest → (∀ i, decode (v.setWidth 32) ≠ .ok i) →
      step s = .next { s with hostQueue := rest, err := true, ecode := 1, response := .writeDone }) ∧
    (s.hostQueue = .read 0x000010 .b8 :: rest →
      step s = .next { s with hostQueue := rest, response := .readData 0 })

/-- The word of any instruction, put where the next step fetches, is what the next step runs: the step is
`exec` of it, and the CMD write completes (the model's own form of R80; log entry 1). -/
def Obligations.FetchedWordIsRun : Prop :=
  ∀ (s : State) (i : Instr), step (s.withFetchWord 32 (encode i).toNat) = completeWith .writeDone (exec i s)

/-- No state stops the block (R287): every step of every state answers a next state. With no access pending the
block is idle and nothing changes (R311); that such a step is taken at all is the model's choice (log entry 1). -/
def Obligations.EveryStepCompletes : Prop :=
  ∀ s : State, Completes (step s) ∧ (s.hostQueue = [] → step s = .next s)

/-- R75 to R77: an access that is misaligned, of a width the register region does not take, or with a byte outside
the mapped parts, completes with a bus error and changes no state of the block, and no command runs; every other
access completes, a read with data and the block unchanged. -/
def Obligations.BusErrorsAndOnlyThey : Prop :=
  ∀ (s : State) (rest : List HostAccess) (addr : Addr) (w : AccessWidth),
    let bad := addr.toNat % w.bytes ≠ 0 ∨ (addr.toNat ≤ 0xFF ∧ w ≠ .b8)
      ∨ (∃ k < w.bytes, ¬ Mapped s.params (addr.toNat + k))
    (bad → (s.hostQueue = .read addr w :: rest ∨ (∃ v, s.hostQueue = .write addr w v :: rest)) →
      step s = .next { s with hostQueue := rest, response := .busError }) ∧
    (¬ bad → s.hostQueue = .read addr w :: rest →
      ∃ v, step s = .next { s with hostQueue := rest, response := .readData v }) ∧
    (¬ bad → ∀ v, s.hostQueue = .write addr w v :: rest →
      ∃ t, step s = .next t ∧ t.response = .writeDone ∧ t.hostQueue = rest)

/-- R33 and R78 at the bus: a read at the offset R33 tabulates for a register returns the register, and a write
at the offset of any register but CMD is a write of that register and nothing else. -/
def Obligations.RegisterAccessAtItsOffset : Prop :=
  ∀ (s : State) (rest : List HostAccess) (r : RegName),
    (s.hostQueue = .read (BitVec.ofNat 24 (registerOffset r)) .b8 :: rest →
      step s = .next { s with hostQueue := rest, response := .readData (readReg r s) }) ∧
    (∀ v, r ≠ .cmd → s.hostQueue = .write (BitVec.ofNat 24 (registerOffset r)) .b8 v :: rest →
      step s = .next ((writeReg r v { s with hostQueue := rest }).respond .writeDone))

/-- What a register reads after the host wrote it: an RW register the bits it implements, with the reserved
bits of MODCFG, FFT_SIZE, MSG_LEN, COUNT and ARGI 0 (R32, R37, R44, R48, R49, R51), a read-only one what it
held (R78), CMD 0 (R36); no other register changes, nor the memories, the draw port or anything else of the
state (R78); and STATUS reads as its fields (R35). -/
def Obligations.RegisterReadAfterWrite : Prop :=
  ∀ (s : State) (r : RegName) (v : Word),
    readReg r (writeReg r v s) =
      (if r ∈ [.id, .status, .cmd, .res0, .res1, .resi, .maxDb, .freqPerBin, .binRange] then readReg r s
       else if r = .modcfg then v &&& 0x1FF
       else if r ∈ [.fftSize, .msgLen, .count, .argi] then v &&& 0xFFFFFFFF
       else v) ∧
    (∀ r' ≠ r, readReg r' (writeReg r v s) = readReg r' s) ∧
    (writeReg r v s).mem = s.mem ∧ (∀ a, readByte (writeReg r v s) a = readByte s a) ∧
    (writeReg r v s).drawPos = s.drawPos ∧ (writeReg r v s).params = s.params ∧
    (writeReg r v s).resetCount = s.resetCount ∧ (writeReg r v s).hostQueue = s.hostQueue ∧
    (writeReg r v s).response = s.response ∧
    readReg .cmd s = 0 ∧ readReg .id s = 0x5347565A00070001 ∧
    (readReg .status s).toNat =
      (if s.err then 1 else 0) + 16 * s.ecode.toNat + 256 * (if s.specValid then 1 else 0)

/-- R72, R81: a host write to one of the memories writes the low bytes of the value and nothing else; the same
access then reads them back, byte `k` of the value stands at `addr + k`, and every byte outside them reads as
before. -/
def Obligations.MemoryReadAfterWrite : Prop :=
  ∀ (s : State) (rest : List HostAccess) (addr : Addr) (w : AccessWidth) (v : Word) (r : Region),
    busTarget s.params addr w = .ok r → r ≠ .registers → s.hostQueue = .write addr w v :: rest →
    ∃ t, step s = .next t ∧ t = { s with hostQueue := rest, response := .writeDone, mem := t.mem } ∧
      busRead t addr w = .ok (BitVec.ofNat 64 (v.toNat % 256 ^ w.bytes)) ∧
      (∀ k < w.bytes, readByte t (addr.toNat + k) = BitVec.ofNat 8 (v.toNat / 256 ^ k)) ∧
      (∀ a, ¬ Within addr.toNat w.bytes a → readByte t a = readByte s a)

/-! ## Reset and the invariant -/

/-- R310: after reset every register reads its reset value, ID as always and every other 0; every command
that needs a configuration then fails with CONFIG, whatever its option fields, while NOP, SINC, RCOS, NOISE
and PACK32 succeed. -/
def Obligations.ResetRegisterValues : Prop :=
  ∀ s : State,
    (∀ r, readReg r (resetBlock s) = if r = .id then 0x5347565A00070001 else 0) ∧
    (∀ r, readReg r State.reset = if r = .id then 0x5347565A00070001 else 0) ∧
    (∀ i ∉ [Instr.nop, .sinc, .rcos, .noise, .pack32, .hover],
      exec i (resetBlock s) = .next { resetBlock s with err := true, ecode := 2 }) ∧
    (∀ i ∈ [Instr.nop, .sinc, .rcos, .noise, .pack32],
      ∃ t, exec i (resetBlock s) = .next t ∧ t.err = false ∧ t.ecode = 0)

/-- A reset access: the registers are reset (R310), the memories hold new unspecified bytes (R312), the draw
port stays where it is (R313). That the bytes are those of the next reset number, and that the host's
later accesses stay pending, are the model's choices (log entries 8 and 9). -/
def Obligations.ResetStep : Prop :=
  ∀ (s : State) (rest : List HostAccess), s.hostQueue = .reset :: rest →
    step s = .next { State.reset with
      params := s.params, drawPos := s.drawPos, resetCount := s.resetCount + 1, hostQueue := rest,
      response := .resetDone } ∧
    ∀ a, readByte (resetBlock s) a = Config.unwrittenByte (s.resetCount + 1) a

/-- The invariant holds right after reset. -/
def Obligations.ResetMeetsInvariant : Prop := State.reset.Inv ∧ ∀ s : State, (resetBlock s).Inv

/-- Every step keeps the invariant: the memories' canonical form, no byte written outside them, no reserved
error code, ERR and ECODE in agreement, and a valid mapping inside the PSD buffer. -/
def Obligations.StepKeepsInvariant : Prop :=
  ∀ s t : State, s.Inv → step s = .next t → t.Inv

/-- No step changes the parameters, takes back a draw, or forgets an access it has not performed (the parameters in
the state and the pending accesses are the model's own; log entries 1 and 3). -/
def Obligations.StepKeepsParametersAndOrder : Prop :=
  ∀ s t : State, step s = .next t →
    t.params = s.params ∧ s.drawPos ≤ t.drawPos ∧ t.hostQueue = s.hostQueue.tail

/-! ## What commands may change and what they record -/

/-- Every command of every state answers a next state, which records either success (ERR = 0, ECODE = 0) or
an error with ERR = 1 and a code of 1 to 6 (R281, R283). -/
def Obligations.CommandRecordsItsEnd : Prop :=
  ∀ (w : CmdWord) (s : State), ∃ t, runCommand w s = .next t ∧
    ((t.err = false ∧ t.ecode = 0) ∨ (t.err = true ∧ 1 ≤ t.ecode.toNat ∧ t.ecode.toNat ≤ 6))

/-- R285: after a failing command the state is exactly the state before it, except ERR and ECODE, and the
draw port has not advanced. -/
def Obligations.FailingCommandLeavesNoTrace : Prop :=
  ∀ (w : CmdWord) (s t : State), runCommand w s = .next t → t.err = true →
    t = { s with err := true, ecode := t.ecode } ∧ t.drawPos = s.drawPos

/-- The errors each command can raise are those of the table of R282. -/
def Obligations.CommandRaisesOnlyItsErrors : Prop :=
  ∀ (i : Instr) (s t : State), exec i s = .next t → t.err = true → t.ecode.toNat ∈ RaisableCodes i

/-- The writers of R61: no command writes a register the table gives to the host alone, nor the parameters or
anything of the host's; RES0, RES1 and RESI, and the mapping, are written only by the commands it names. -/
def Obligations.CommandsWriteOnlyTheirRegisters : Prop :=
  ∀ (i : Instr) (s t : State), exec i s = .next t →
    (SameConfiguration s t ∧ t.params = s.params ∧ t.resetCount = s.resetCount
      ∧ t.hostQueue = s.hostQueue ∧ t.response = s.response) ∧
    ((t.res0 = s.res0 ∧ t.res1 = s.res1 ∧ t.resi = s.resi)
      ∨ i ∈ [.sinc, .rcos, .getsym, .noise, .dbscalar, .hover] ∨ (∃ im nz, i = .sample im nz)
      ∨ (∃ nz, i = .iqpoint nz)) ∧
    ((t.maxDb = s.maxDb ∧ t.freqPerBin = s.freqPerBin ∧ t.binRange = s.binRange ∧ t.specValid = s.specValid)
      ∨ i = .binmap ∨ (∃ nz, i = .spectrum nz))

/-- R171: of the commands only SAMPLE with MOD = FSK and SWEEP write PHASE; SPECTRUM never does. -/
def Obligations.OnlySampleAndSweepWritePhase : Prop :=
  ∀ (i : Instr) (s t : State), exec i s = .next t →
    ((∀ im nz, i = .sample im nz → modKind s ≠ .fsk) ∧ (∀ im nz pr, i ≠ .sweep im nz pr) → t.phase = s.phase)

/-- The frame of memory: a byte that a command does not store to (the ranges of R106) reads as before, after
every command, and after a failing one every byte does. -/
def Obligations.CommandsStoreOnlyToTheirRanges : Prop :=
  ∀ (i : Instr) (s t : State), exec i s = .next t →
    ∀ a, ¬ StoresTo s i a ∨ t.err = true → readByte t a = readByte s a

/-- R241: SPEC_VALID is 0 after reset, set to 1 by every successful BINMAP and SPECTRUM, and never cleared by
any other command or by a failed one, and no other command sets it; it does not track later host writes. -/
def Obligations.SpecValidIsSticky : Prop :=
  State.reset.specValid = false ∧
  (∀ (s : State) (r : RegName) (v : Word), (writeReg r v s).specValid = s.specValid) ∧
  (∀ (s : State) (a n : Nat) (v : Word), (memWrite s a n v).specValid = s.specValid) ∧
  ∀ (i : Instr) (s t : State), exec i s = .next t →
    (s.specValid = true → t.specValid = true) ∧
    (t.err = false → (i = .binmap ∨ ∃ nz, i = .spectrum nz) → t.specValid = true) ∧
    ((t.err = true ∨ (i ≠ .binmap ∧ ∀ nz, i ≠ .spectrum nz)) → t.specValid = s.specValid)

/-- R202: a successful command takes two draws for each Gaussian value it computes and no other draw; a failed
one takes none. -/
def Obligations.CommandsTakeTheirDraws : Prop :=
  ∀ (i : Instr) (s t : State), exec i s = .next t →
    t.drawPos = s.drawPos + (if t.err then 0 else DrawsOf s i)

/-! ## Arithmetic -/

/-- R12: a comparison with a NaN is false, `-0.0 == +0.0` is true, and the classes are those of IEEE 754. -/
def Obligations.ComparisonsAndNaN : Prop :=
  (∀ a b : F64, isNaN a = true ∨ isNaN b = true → flt a b = false ∧ fle a b = false ∧ feq a b = false) ∧
  feq 0x8000000000000000 0x0000000000000000 = true ∧
  (∀ x : F64, (isNaN x = true ↔ 0x7FF0000000000000 < x.toNat % 2 ^ 63) ∧
    (isInf x = true ↔ x.toNat % 2 ^ 63 = 0x7FF0000000000000) ∧
    (isFinite x = true ↔ x.toNat % 2 ^ 63 < 0x7FF0000000000000))

/-- A NaN operand gives a NaN (R10, R140, R144): the four operations and the square root, the sinc primitive,
and the raised cosine in its time operand. -/
def Obligations.NaNPropagates : Prop :=
  ∀ x y z : F64, isNaN x = true →
    isNaN (fadd x y) = true ∧ isNaN (fadd y x) = true ∧ isNaN (fsub x y) = true ∧ isNaN (fsub y x) = true
      ∧ isNaN (fmul x y) = true ∧ isNaN (fmul y x) = true ∧ isNaN (fdiv x y) = true ∧ isNaN (fdiv y x) = true
      ∧ isNaN (fsqrt x) = true ∧ isNaN (sincf x) = true ∧ isNaN (rcos x y z) = true

/-- R13: `f64(k)` is exact for `|k| <= 2^53`, so its `floor` is `k` again. -/
def Obligations.IntegerConversionExact : Prop :=
  ∀ k : Int, k.natAbs ≤ 2 ^ 53 → isFinite (ofInt k) = true ∧ ffloor (ofInt k) = k

/-- A rectangular weight of 1.0 leaves every element that is not a NaN bit-identical (R222). -/
def Obligations.MultiplyByOneExact : Prop :=
  ∀ x : F64, isNaN x = false → fmul x 0x3FF0000000000000 = x

/-- R200: with `RMAX < 2^53` every uniform value is in `(0, 1]`, whatever the draw is. -/
def Obligations.UniformInUnitInterval : Prop :=
  ∀ (s : State) (pos : Nat), s.params.rMax < 2 ^ 53 →
    flt 0x0000000000000000 (uniform s pos) = true ∧ fle (uniform s pos) 0x3FF0000000000000 = true

/-! ## NOP, and the pulse shaper -/

/-- R273: NOP changes nothing but clearing ERR and ECODE, and any other word with opcode 0 is ILLEGAL. -/
def Obligations.NopClearsErrorOnly : Prop :=
  (∀ s : State, exec .nop s = .next { s with err := false, ecode := 0 }) ∧
  (∀ (w : CmdWord) (s : State), w.toNat % 64 = 0 → w ≠ 0 →
    runCommand w s = .next { s with err := true, ecode := 1 })

/-- SINC (R140, R141): in every state it completes with `RES0 = sinc(ARG0)` and changes nothing else. -/
def Obligations.SincResult : Prop :=
  ∀ s : State, exec .sinc s = .next { s with
    res0 := if flt (fabs s.arg0) 0x3E112E0BE826D695 then 0x3FF0000000000000
      else fdiv (Config.sin (fmul 0x400921FB54442D18 s.arg0)) (fmul 0x400921FB54442D18 s.arg0)
    err := false, ecode := 0 }

/-- RCOS (R142, R143): in every state it completes with `RES0 = rcos(ARG0, ARG1, ARG2)`, by the first of the
branches Z, C, S and G whose test holds, and changes nothing else. -/
def Obligations.RcosResult : Prop :=
  ∀ s : State,
    let t := s.arg0
    let ts := s.arg1
    let beta := s.arg2
    let x := fdiv t ts
    let u := fmul (fmul 0x4000000000000000 beta) x
    exec .rcos s = .next { s with
      res0 :=
        if flt (fmul 0x4010000000000000 ts) (fabs t) then 0x0000000000000000
        else if flt (fabs t) EPS9 then 0x3FF0000000000000
        else if flt EPS9 beta && flt (fabs (fsub (fabs u) 0x3FF0000000000000)) EPS9 then
          fmul PI_4 (sincf (fdiv 0x3FF0000000000000 (fmul 0x4000000000000000 beta)))
        else fmul (sincf x) (fdiv (Config.cos (fmul (fmul PI beta) x)) (fsub 0x3FF0000000000000 (fmul u u)))
      err := false, ecode := 0 }

/-- Corner cases of R144: a zero offset gives 1.0 for every `Ts >= 0`; for `Ts < 0` every offset that is not a
NaN gives `+0.0`; an offset beyond `4*Ts` gives `+0.0`. -/
def Obligations.RcosCornerCases : Prop :=
  ∀ t ts beta : F64,
    (isZero t = true → fle 0x0000000000000000 ts = true → rcos t ts beta = 0x3FF0000000000000) ∧
    (isNaN t = false → flt ts 0x0000000000000000 = true → rcos t ts beta = 0x0000000000000000) ∧
    (flt (fmul 0x4010000000000000 ts) (fabs t) = true → rcos t ts beta = 0x0000000000000000)

/-! ## The symbol codec -/

/-- R131: a symbol that starts past the end of the message is 0; any other has `b` bits, the first of them the
most significant, taken from the message or 0 past its end; so every symbol is below `2^b`. -/
def Obligations.SymbolBits : Prop :=
  ∀ (s : State) (j b : Nat),
    (s.msgLen.toNat ≤ j * b / 8 → symbolAt s j b = 0) ∧
    (j * b / 8 < s.msgLen.toNat → ∀ q < b,
      (symbolAt s j b).testBit (b - 1 - q) =
        (decide ((j * b + q) / 8 < s.msgLen.toNat)
          && (msgByte s ((j * b + q) / 8)).getLsbD (7 - (j * b + q) % 8))) ∧
    symbolAt s j b < 2 ^ b

/-- R132: `NSYM = (8*L + b - 1) div b` counts exactly the indices that do not take the past-end branch, and is 0
exactly for an empty message. -/
def Obligations.SymbolCountCountsSymbols : Prop :=
  ∀ s : State, 1 ≤ bitsPerSymbol s →
    symbolCount s = (8 * s.msgLen.toNat + bitsPerSymbol s - 1) / bitsPerSymbol s ∧
    (∀ j, j < symbolCount s ↔ j * bitsPerSymbol s / 8 < s.msgLen.toNat) ∧
    (symbolCount s = 0 ↔ s.msgLen.toNat = 0)

/-- R133: the three index modes: SKIPNEG skips negative indices, BOUNDED those and the ones from `NSYM` on, and
WRAP gives the Euclidean remainder, below `NSYM`. -/
def Obligations.IndexModesResolve : Prop :=
  ∀ (s : State) (k : Int),
    (k < 0 → resolve s k .skipneg = none ∧ resolve s k .bounded = none) ∧
    (∀ j : Nat, k = j → resolve s k .skipneg = some j) ∧
    (∀ j : Nat, k = j → j < symbolCount s → resolve s k .bounded = some j) ∧
    ((symbolCount s : Int) ≤ k → resolve s k .bounded = none) ∧
    (0 < symbolCount s → ∃ j, resolve s k .wrap = some j ∧ j < symbolCount s
      ∧ ∃ n : Int, k = n * (symbolCount s : Int) + (j : Int))

/-- GETSYM (R134): with a legal BPS and message length it completes with the symbol in RESI and changes nothing
else; otherwise it records CONFIG. -/
def Obligations.GetsymResult : Prop :=
  ∀ s : State,
    (1 ≤ bitsPerSymbol s → bitsPerSymbol s ≤ 16 → s.msgLen.toNat ≤ s.params.msgCap →
      exec .getsym s = .next { s with
        resi := BitVec.ofNat 32 (symbolAt s s.argi.toNat (bitsPerSymbol s)), err := false, ecode := 0 }) ∧
    (bitsPerSymbol s = 0 ∨ 16 < bitsPerSymbol s ∨ s.params.msgCap < s.msgLen.toNat →
      exec .getsym s = .next { s with err := true, ecode := 2 })

/-! ## The synthesizer and noise -/

/-- SAMPLE (R168): with a legal configuration, and a time whose symbol index is in range unless the message is
empty under WRAP, it completes with the sample in RES0, with NZ = 1 and noise on as `y + gauss() * sd` (R204), the
FSK phase in PHASE where MOD = FSK, and its draws taken, and changes nothing else. -/
def Obligations.SampleResult : Prop :=
  ∀ (s : State) (im : IndexMode) (nz : Bool), vSyn s = true → (nz = true → vNoise s = true) →
    (symIndexOk s s.arg0 = true ∨ (im = .wrap ∧ symbolCount s = 0)) →
    let y := synth s s.arg0 im s.phase
    exec (.sample im nz) s = .next { s with
      res0 := noisySample s nz y.1 s.drawPos, drawPos := s.drawPos + drawsPerSample s nz
      phase := if modKind s = .fsk then y.2 else s.phase, err := false, ecode := 0 }

/-- Where SAMPLE and SWEEP fail, in the order of R284: CONFIG for an illegal configuration (`V_SYN`, which checks
SAMPLING_RATE whatever MOD is, as the model deduces from R53: log entry 14) or, with NZ, an illegal noise setting;
ALLOC for a COUNT above `N_MAX`; RANGE for a time whose quotient by the symbol period is not finite or whose floor
is outside `[-2^31 + 4, 2^31 - 5]` (R160). -/
def Obligations.SampleAndSweepErrors : Prop :=
  ∀ (s : State) (im : IndexMode) (nz pr : Bool),
    (vSyn s = false ∨ (nz = true ∧ vNoise s = false) →
      exec (.sample im nz) s = .next { s with err := true, ecode := 2 } ∧
      exec (.sweep im nz pr) s = .next { s with err := true, ecode := 2 }) ∧
    (vSyn s = true → (nz = true → vNoise s = true) → s.params.nMax < s.count.toNat →
      exec (.sweep im nz pr) s = .next { s with err := true, ecode := 3 }) ∧
    (vSyn s = true → (nz = true → vNoise s = true) → ¬ (im = .wrap ∧ symbolCount s = 0) →
      (isFinite (fdiv s.arg0 s.symbolPeriod) = false ∨ ffloor (fdiv s.arg0 s.symbolPeriod) < -2 ^ 31 + 4
        ∨ 2 ^ 31 - 5 < ffloor (fdiv s.arg0 s.symbolPeriod)) →
      exec (.sample im nz) s = .next { s with err := true, ecode := 4 }) ∧
    (vSyn s = true → (nz = true → vNoise s = true) → ¬ (im = .wrap ∧ symbolCount s = 0) →
      s.count.toNat ≤ s.params.nMax →
      (∃ i < s.count.toNat, symIndexOk s (fadd s.arg0 (fdiv (ofNat i) s.samplingRate)) = false) →
      exec (.sweep im nz pr) s = .next { s with err := true, ecode := 4 })

/-- SWEEP (R170): with a legal configuration, COUNT at most `N_MAX` and every sample time in range, it completes;
`RE[i]` holds the sample at `ARG0 + f64(i) / fs`, the FSK phase threaded in order of `i`, with NZ = 1 and noise on
as `y + gauss() * sd` from draws `2*i` and `2*i + 1` (R204); PHASE holds the FSK phase after the last (with PR = 1
starting from, and for another MOD left at, `+0.0`), the draws are taken, and everything else is unchanged, every
byte outside RE's first COUNT elements included. -/
def Obligations.SweepResult : Prop :=
  ∀ (s : State) (im : IndexMode) (nz pr : Bool), vSyn s = true → (nz = true → vNoise s = true) →
    s.count.toNat ≤ s.params.nMax →
    ((∀ i < s.count.toNat, symIndexOk s (fadd s.arg0 (fdiv (ofNat i) s.samplingRate)) = true)
      ∨ (im = .wrap ∧ symbolCount s = 0)) →
    let ph := if pr then 0 else s.phase
    ∃ t, exec (.sweep im nz pr) s = .next t ∧
      t = { s with
        mem := t.mem, drawPos := s.drawPos + drawsPerSample s nz * s.count.toNat
        phase := if modKind s = .fsk then phaseBefore s im s.arg0 ph s.count.toNat
          else if pr then 0 else s.phase
        err := false, ecode := 0 } ∧
      (∀ a, ¬ StoresTo s (.sweep im nz pr) a → readByte t a = readByte s a) ∧
      ∀ i < s.count.toNat, readElement t .re i = blockSample s im nz s.arg0 ph i

/-- R169: without noise and for ASK or PSK, after a successful SWEEP sample `i` is the sample at the time
`ARG0 + f64(i) / SAMPLING_RATE`. -/
def Obligations.SweepSamplesItsGrid : Prop :=
  ∀ (s t : State) (im : IndexMode) (pr : Bool), modKind s ≠ .fsk → exec (.sweep im false pr) s = .next t →
    t.err = false → ∀ i < s.count.toNat,
      readElement t .re i = (synth s (fadd s.arg0 (fdiv (ofNat i) s.samplingRate)) im s.phase).1

/-- R174 (FSK phase continuity): after a successful SWEEP with MOD = FSK, PHASE is the starting phase (PHASE, or
`+0.0` with PR = 1) with every sample's increment added in order; under WRAP with an empty message it is the
starting phase. -/
def Obligations.SweepAccumulatesPhase : Prop :=
  ∀ (s t : State) (im : IndexMode) (nz pr : Bool), modKind s = .fsk → exec (.sweep im nz pr) s = .next t →
    t.err = false →
    (¬ (im = .wrap ∧ symbolCount s = 0) →
      t.phase = (List.range s.count.toNat).foldl
        (fun ph i => fskPhase s (fadd s.arg0 (fdiv (ofNat i) s.samplingRate)) im ph)
        (if pr then 0 else s.phase)) ∧
    (im = .wrap ∧ symbolCount s = 0 → t.phase = if pr then 0 else s.phase)

/-- The sample function and its three kernels (R161 to R167). WRAP with an empty message gives silence and keeps
the phase. ASK and PSK add, in ascending order of the index, the nine symbols around the current one that the
index mode does not skip: ASK weighted by `f64(s) / f64(M - 1)`, PSK as a point at the symbol's angle, each by the
raised cosine of its offset. FSK advances the phase by `(TWO_PI * f) / fs` before it takes the sine, a skipped
symbol counting as 0. -/
def Obligations.SynthesizerKernels : Prop :=
  ∀ (s : State) (t ph : F64) (im : IndexMode), 1 ≤ bitsPerSymbol s →
    let silence := im = .wrap ∧ symbolCount s = 0
    let m := 2 ^ bitsPerSymbol s
    let kc := ffloor (fdiv t s.symbolPeriod)
    let near := [kc - 4, kc - 3, kc - 2, kc - 1, kc, kc + 1, kc + 2, kc + 3, kc + 4]
    let sym := fun j => ofNat (symbolAt s j (bitsPerSymbol s))
    let w := fun k =>
      rcos (fsub t (fmul (fadd (ofInt k) s.params.centerFrac) s.symbolPeriod)) s.symbolPeriod s.rollOff
    let angle := fun j =>
      let a := fdiv (fmul TWO_PI (sym j)) (ofNat m)
      if m = 4 then fadd a PI_4 else a
    let carrier := fmul (fmul TWO_PI s.carrierFreq) t
    (silence → synth s t im ph = (0, ph)) ∧
    (¬ silence → modKind s = .ask →
      let env := near.foldl (fun env k => match resolve s k im with
        | none => env
        | some j => fadd env (fmul (fdiv (sym j) (ofNat (m - 1))) (w k))) 0
      synth s t im ph = (fmul (fmul s.amplitude env) (Config.sin carrier), ph)) ∧
    (¬ silence → modKind s = .psk →
      let i := near.foldl (fun acc k => match resolve s k im with
        | none => acc
        | some j => fadd acc (fmul (w k) (Config.cos (angle j)))) 0
      let q := near.foldl (fun acc k => match resolve s k im with
        | none => acc
        | some j => fadd acc (fmul (w k) (Config.sin (angle j)))) 0
      synth s t im ph =
        (fmul s.amplitude (fsub (fmul i (Config.cos carrier)) (fmul q (Config.sin carrier))), ph)) ∧
    (¬ silence → modKind s = .fsk →
      let f := fadd s.carrierFreq (fmul (match resolve s kc im with
        | none => ofNat 0
        | some j => sym j) (fdiv s.carrierFreq 0x4000000000000000))
      let ph' := fadd ph (fdiv (fmul TWO_PI f) s.samplingRate)
      synth s t im ph = (fmul s.amplitude (Config.sin ph'), ph'))

/-- IQPOINT (R172, R173): for PSK it completes with the constellation point of its symbol in RES0 and RES1, with
NZ = 1 and noise on each channel plus `gauss() * sqrt(0.5 / lin)`, I from draws 1 and 2 and Q from draws 3 and 4
(R205); for another MOD it records UNSUPPORTED, after CONFIG (R284). -/
def Obligations.IqpointResult : Prop :=
  ∀ (s : State) (nz : Bool),
    let m := 2 ^ bitsPerSymbol s
    let sym := symbolAt s s.argi.toNat (bitsPerSymbol s)
    let a0 := fdiv (fmul TWO_PI (ofNat sym)) (ofNat m)
    let a := if m = 4 then fadd a0 PI_4 else a0
    let noisy := nz = true ∧ flt s.snrDb 0x4059000000000000 = true
    let sdc := fsqrt (fdiv 0x3FE0000000000000 (linearSnr s))
    (vMod s = true → (nz = true → snrOk s = true) → modKind s = .psk →
      (noisy → exec (.iqpoint nz) s = .next { s with
        res0 := fadd (Config.cos a) (fmul (gaussAt s s.drawPos) sdc)
        res1 := fadd (Config.sin a) (fmul (gaussAt s (s.drawPos + 2)) sdc)
        drawPos := s.drawPos + 4, err := false, ecode := 0 }) ∧
      (¬ noisy → exec (.iqpoint nz) s = .next { s with
        res0 := Config.cos a, res1 := Config.sin a, err := false, ecode := 0 })) ∧
    (vMod s = true → (nz = true → snrOk s = true) → modKind s ≠ .psk →
      exec (.iqpoint nz) s = .next { s with err := true, ecode := 5 }) ∧
    (vMod s = false ∨ (nz = true ∧ snrOk s = false) →
      exec (.iqpoint nz) s = .next { s with err := true, ecode := 2 })

/-- NOISE (R200, R201, R204, R206): with legal AMPLITUDE and SNR_DB it completes; below 100 dB RES0 is
`+0.0 + gauss() * sd` and two draws are taken, at or above it RES0 is `+0.0` and none is; otherwise CONFIG. -/
def Obligations.NoiseResult : Prop :=
  ∀ s : State,
    let u := fun pos => fdiv (fadd (ofNat (uniformDraw s pos)) 0x3FF0000000000000)
      (fadd (ofNat s.params.rMax) 0x3FF0000000000000)
    let g := fmul (fsqrt (fmul 0xC000000000000000 (Config.ln (u s.drawPos))))
      (Config.cos (fmul TWO_PI (u (s.drawPos + 1))))
    let sd := fsqrt (fdiv (fdiv (fmul s.amplitude s.amplitude) 0x4000000000000000)
      (Config.pow 0x4024000000000000 (fdiv s.snrDb 0x4024000000000000)))
    (vNoise s = true → flt s.snrDb 0x4059000000000000 = true →
      exec .noise s = .next { s with
        res0 := fadd 0 (fmul g sd), drawPos := s.drawPos + 2, err := false, ecode := 0 }) ∧
    (vNoise s = true → flt s.snrDb 0x4059000000000000 = false →
      exec .noise s = .next { s with res0 := 0, err := false, ecode := 0 }) ∧
    (vNoise s = false → exec .noise s = .next { s with err := true, ecode := 2 })

/-- R203: with noise off (`SNR_DB >= 100`, legal) a command with NZ = 1 does exactly what it does with NZ = 0: the
result is bit-identical and no draw is taken. -/
def Obligations.NoiseOffIsExact : Prop :=
  ∀ (s : State) (im : IndexMode) (pr : Bool), vNoise s = true → fle 0x4059000000000000 s.snrDb = true →
    exec (.sample im true) s = exec (.sample im false) s
      ∧ exec (.sweep im true pr) s = exec (.sweep im false pr) s
      ∧ exec (.iqpoint true) s = exec (.iqpoint false) s
      ∧ exec (.spectrum true) s = exec (.spectrum false) s

/-! ## The spectral estimator -/

/-- WINDOW (R221, R222): with a legal size and window it completes; every `IM[i]` below `N` is `+0.0` and every
`RE[i]` is multiplied by its weight, and under Rectangular keeps its bits unless it is a NaN; nothing else changes
but those bytes. -/
def Obligations.WindowResult : Prop :=
  ∀ s : State, LegalFftSize s → winKind s ≠ .reserved →
    ∃ t, exec .window s = .next t ∧ t = { s with mem := t.mem, err := false, ecode := 0 } ∧
      (∀ a, ¬ StoresTo s .window a → readByte t a = readByte s a) ∧
      ∀ i < s.fftSize.toNat,
        let theta := fdiv (fmul TWO_PI (ofNat i)) (ofNat (s.fftSize.toNat - 1))
        readElement t .im i = 0 ∧
        (winKind s = .rectangular →
          readElement t .re i = fmul (readElement s .re i) 0x3FF0000000000000 ∧
          (isNaN (readElement s .re i) = false → readElement t .re i = readElement s .re i)) ∧
        (winKind s = .hann → readElement t .re i = fmul (readElement s .re i)
          (fmul 0x3FE0000000000000 (fsub 0x3FF0000000000000 (Config.cos theta)))) ∧
        (winKind s = .hamming → readElement t .re i = fmul (readElement s .re i)
          (fsub 0x3FE147AE147AE148 (fmul 0x3FDD70A3D70A3D71 (Config.cos theta))))

/-- R223: the permutation puts at each place the element whose index has the bits of that place's in reverse
order; in `rev(i)`, bit `k` of `i` is bit `m - 1 - k`. -/
def Obligations.BitReversePermutes : Prop :=
  ∀ (m : Nat) (xs : List (F64 × F64)), xs.length = 2 ^ m →
    (bitReverse m xs).length = 2 ^ m ∧
    ∀ i < 2 ^ m, cget (bitReverse m xs) i = cget xs (bitRev m i) ∧ bitRev m i < 2 ^ m ∧
      ∀ k < m, (bitRev m i).testBit (m - 1 - k) = i.testBit k

/-- FFT (R226): with a legal size it completes; the first `N` elements of RE and IM become the transform of what
they were, and nothing else changes but those bytes. The transform is the bit-reversal permutation and then the
stages of length 2, 4, ..., `N`; a stage of length `len` takes the elements `p = base + j` and `q = p + len/2` of
each block to `a + w*b` and `a - w*b`, both from the stage's input, in the order of R224; and the twiddle factor
`w` of `j` and `len` is `(cos theta, sin theta)` with `theta = -((TWO_PI * f64(j)) / f64(len))` (R225). -/
def Obligations.FftResult : Prop :=
  (∀ s : State, LegalFftSize s →
    let n := s.fftSize.toNat
    let ys := fftTransform n ((readElements s .re n).zip (readElements s .im n))
    ∃ t, exec .fft s = .next t ∧ t = { s with mem := t.mem, err := false, ecode := 0 } ∧
      (∀ a, ¬ StoresTo s .fft a → readByte t a = readByte s a) ∧
      ys.length = n ∧ ∀ i < n, readElement t .re i = (cget ys i).1 ∧ readElement t .im i = (cget ys i).2) ∧
  (∀ (m : Nat) (xs : List (F64 × F64)), fftTransform (2 ^ m) xs =
    (List.range m).foldl (fun ys k => butterflyStage (2 ^ m) (2 ^ (k + 1)) ys) (bitReverse m xs)) ∧
  (∀ (m k block j : Nat) (xs : List (F64 × F64)), xs.length = 2 ^ m → k < m → block < 2 ^ (m - k - 1) → j < 2 ^ k →
    let len := 2 ^ (k + 1)
    let p := block * len + j
    let q := p + 2 ^ k
    let w := twiddle j len
    let xr := fsub (fmul (cget xs q).1 w.1) (fmul (cget xs q).2 w.2)
    let xi := fadd (fmul (cget xs q).1 w.2) (fmul (cget xs q).2 w.1)
    (butterflyStage (2 ^ m) len xs).length = 2 ^ m ∧
    cget (butterflyStage (2 ^ m) len xs) p = (fadd (cget xs p).1 xr, fadd (cget xs p).2 xi) ∧
    cget (butterflyStage (2 ^ m) len xs) q = (fsub (cget xs p).1 xr, fsub (cget xs p).2 xi)) ∧
  ∀ j len : Nat,
    let theta := fneg (fdiv (fmul TWO_PI (ofNat j)) (ofNat len))
    twiddle j len = (Config.cos theta, Config.sin theta)

/-- FFT of two elements (R224, R225): one butterfly with the twiddle factor of `j = 0`, `len = 2`. -/
def Obligations.FftOfTwo : Prop :=
  ∀ s t : State, s.fftSize = 2 → exec .fft s = .next t →
    let w := twiddle 0 2
    let xr := fsub (fmul (readElement s .re 1) w.1) (fmul (readElement s .im 1) w.2)
    let xi := fadd (fmul (readElement s .re 1) w.2) (fmul (readElement s .im 1) w.1)
    readElement t .re 0 = fadd (readElement s .re 0) xr ∧ readElement t .im 0 = fadd (readElement s .im 0) xi ∧
    readElement t .re 1 = fsub (readElement s .re 0) xr ∧ readElement t .im 1 = fsub (readElement s .im 0) xi

/-- POWER (R228, R229): with a legal size and exponent it completes; every PSD bin below `N/2` becomes the dB
scalar of its RE and IM elements, and nothing else changes but those bytes. -/
def Obligations.PowerResult : Prop :=
  ∀ s : State, LegalFftSize s → vPow s = true →
    ∃ t, exec .power s = .next t ∧ t = { s with mem := t.mem, err := false, ecode := 0 } ∧
      (∀ a, ¬ StoresTo s .power a → readByte t a = readByte s a) ∧
      ∀ i < s.fftSize.toNat / 2,
        readElement t .psd i = powerDb s (readElement s .re i) (readElement s .im i)

/-- DBSCALAR (R228, R230): with a legal size and exponent it completes with the dB scalar of ARG0 and ARG1 in
RES0, the exponent skipped where it is 1.0, and changes nothing else. -/
def Obligations.DbscalarResult : Prop :=
  ∀ s : State, LegalFftSize s → vPow s = true →
    let p0 := fadd (fmul s.arg0 s.arg0) (fmul s.arg1 s.arg1)
    let p := if feq s.spectrumPower 0x3FF0000000000000 then p0 else Config.pow p0 s.spectrumPower
    exec .dbscalar s = .next { s with
      res0 := fmul 0x4024000000000000
        (Config.log10 (fadd (fdiv p (ofNat s.fftSize.toNat)) 0x3D719799812DEA11))
      err := false, ecode := 0 }

/-- R232 to R234: the visible range is the one CENTER_FREQ and SPAN give by the clamps, the floors (a free value
where the bin width underflows to zero, log entry 10) and the widening; it always holds at least one bin and lies
inside `[0, half)`. -/
def Obligations.VisibleRangeIsLegal : Prop :=
  ∀ s : State, 1 ≤ halfLength s →
    visibleBins s = visibleRange s ∧ (visibleBins s).1 < (visibleBins s).2 ∧ (visibleBins s).2 ≤ halfLength s

/-- R235: the peak is one of the visible bins; if the first of them is a NaN it is that one, and otherwise no
visible bin is greater. -/
def Obligations.PeakIsGreatestBin : Prop :=
  ∀ (s : State) (sb eb : Nat), sb < eb →
    (∃ k, sb ≤ k ∧ k < eb ∧ peak s sb eb = readElement s .psd k) ∧
    (isNaN (readElement s .psd sb) = true → peak s sb eb = readElement s .psd sb) ∧
    (isNaN (readElement s .psd sb) = false →
      ∀ i, sb ≤ i → i < eb → flt (peak s sb eb) (readElement s .psd i) = false)

/-- BINMAP (R231 to R236): with a legal size and mapping configuration it completes: FREQ_PER_BIN, BINRANGE and
MAX_DB hold the bin width, the visible range that CENTER_FREQ and SPAN give, and the peak over it, SPEC_VALID is 1,
and nothing else changes. Where the bin width underflows to zero the `floor` of R233 is a free value (log entry 10). -/
def Obligations.BinmapResult : Prop :=
  ∀ s : State, LegalFftSize s → vMap s = true →
    exec .binmap s = .next { s with
      freqPerBin := widthOfBins s
      binRange := BitVec.ofNat 32 (visibleRange s).2 ++ BitVec.ofNat 32 (visibleRange s).1
      maxDb := peakOver s (visibleRange s).1 (visibleRange s).2
      specValid := true, err := false, ecode := 0 }

/-- Where the commands of the spectral estimator and PACK32 fail (R220, R239, R282, R284): CONFIG for a size that
is no power of two of at least 2 or another illegal setting, then ALLOC for a size or count above `N_MAX`, then, for
SPECTRUM with a message, RANGE for a sample time whose symbol index is out of range; and HOVER: CONFIG for a NaN
query, then NOSPEC without a mapping. -/
def Obligations.SpectralAndExportErrors : Prop :=
  ∀ (s : State) (nz : Bool),
    let config : Host.Outcome State Fault Refusal := .next { s with err := true, ecode := 2 }
    let alloc : Host.Outcome State Fault Refusal := .next { s with err := true, ecode := 3 }
    (¬ PowerOfTwoSize s.fftSize.toNat →
      exec .window s = config ∧ exec .fft s = config ∧ exec .power s = config ∧ exec .dbscalar s = config
        ∧ exec .binmap s = config ∧ exec (.spectrum nz) s = config) ∧
    (winKind s = .reserved → exec .window s = config ∧ exec (.spectrum nz) s = config) ∧
    (vPow s = false → exec .power s = config ∧ exec .dbscalar s = config ∧ exec (.spectrum nz) s = config) ∧
    (vMap s = false → exec .binmap s = config ∧ exec (.spectrum nz) s = config) ∧
    (vSyn s = false ∨ isFinite s.timeOffset = false ∨ (nz = true ∧ vNoise s = false) →
      exec (.spectrum nz) s = config) ∧
    (PowerOfTwoSize s.fftSize.toNat → s.params.nMax < s.fftSize.toNat →
      exec .fft s = alloc ∧ (winKind s ≠ .reserved → exec .window s = alloc) ∧
      (vPow s = true → exec .power s = alloc ∧ exec .dbscalar s = alloc) ∧
      (vMap s = true → exec .binmap s = alloc)) ∧
    (PowerOfTwoSize s.fftSize.toNat → vSyn s = true → winKind s ≠ .reserved → vPow s = true → vMap s = true →
      isFinite s.timeOffset = true → (nz = true → vNoise s = true) →
      (s.params.nMax < s.fftSize.toNat → exec (.spectrum nz) s = alloc) ∧
      (s.fftSize.toNat ≤ s.params.nMax → symbolCount s ≠ 0 →
        (∃ i < s.fftSize.toNat, symIndexOk s (fadd s.timeOffset (fdiv (ofNat i) s.samplingRate)) = false) →
        exec (.spectrum nz) s = .next { s with err := true, ecode := 4 })) ∧
    (s.params.nMax < s.count.toNat → exec .pack32 s = alloc) ∧
    (isNaN s.arg0 = true → exec .hover s = config) ∧
    (isNaN s.arg0 = false → s.specValid = false → exec .hover s = .next { s with err := true, ecode := 6 })

/-- SPECTRUM (R239, R244): with every configuration it reads legal and every sample time in range, it completes.
The samples are those of WRAP mode at `TIME_OFFSET + f64(i) / fs`, the FSK phase threaded from `+0.0` (R240, R243),
with NZ = 1 and noise on as `y + gauss() * sd` (R204), or silence without a draw for an empty message; RE and IM
hold the transform of the samples times their window weights, with imaginary parts `+0.0`; the PSD bins below `N/2`
are the dB scalars of RE and IM; the mapping is latched (log entry 10 for a bin width of zero) with the peak of
that PSD; and everything else (PHASE, RES0, RES1, RESI and COUNT among it) is unchanged, every byte outside the
first `N` elements of RE and IM and the first `N/2` of PSD included. -/
def Obligations.SpectrumResult : Prop :=
  ∀ (s : State) (nz : Bool), LegalFftSize s → vSyn s = true → winKind s ≠ .reserved → vPow s = true →
    vMap s = true → isFinite s.timeOffset = true → (nz = true → vNoise s = true) →
    (symbolCount s = 0 ∨
      ∀ i < s.fftSize.toNat, symIndexOk s (fadd s.timeOffset (fdiv (ofNat i) s.samplingRate)) = true) →
    let n := s.fftSize.toNat
    let y := fun i => if symbolCount s = 0 then 0 else blockSample s .wrap nz s.timeOffset 0 i
    let ys := fftTransform n ((List.range n).map (fun i => (fmul (y i) (windowWeight s i), 0)))
    ∃ t, exec (.spectrum nz) s = .next t ∧
      t = { s with
        mem := t.mem
        drawPos := if symbolCount s = 0 then s.drawPos else s.drawPos + drawsPerSample s nz * n
        freqPerBin := widthOfBins s
        binRange := BitVec.ofNat 32 (visibleRange s).2 ++ BitVec.ofNat 32 (visibleRange s).1
        maxDb := peakOver t (visibleRange s).1 (visibleRange s).2
        specValid := true, err := false, ecode := 0 } ∧
      (∀ a, ¬ StoresTo s (.spectrum nz) a → readByte t a = readByte s a) ∧
      (∀ i < n, readElement t .re i = (cget ys i).1 ∧ readElement t .im i = (cget ys i).2) ∧
      ∀ i < n / 2, readElement t .psd i = decibels s (readElement t .re i) (readElement t .im i)

/-- SPECTRUM is the steps it is made of: a successful SPECTRUM leaves every byte of memory, the mapping and the draw
port as SWEEP.wrap.pr, WINDOW, FFT, POWER and BINMAP do in turn from the same state with ARG0 = TIME_OFFSET and
COUNT = FFT_SIZE, and each of them succeeds (R170, R222, R226, R229, R236, R240 and R244). SWEEP has NZ as SPECTRUM
has it, but for an empty message, to which SPECTRUM adds no noise. -/
def Obligations.SpectrumEqualsItsSteps : Prop :=
  ∀ (s t : State) (nz : Bool), exec (.spectrum nz) s = .next t → t.err = false →
    ∃ t1 t2 t3 t4 t5,
      exec (.sweep .wrap (nz && symbolCount s != 0) true) { s with arg0 := s.timeOffset, count := s.fftSize }
        = .next t1 ∧
      exec .window t1 = .next t2 ∧ exec .fft t2 = .next t3 ∧ exec .power t3 = .next t4 ∧
      exec .binmap t4 = .next t5 ∧
      t1.err = false ∧ t2.err = false ∧ t3.err = false ∧ t4.err = false ∧ t5.err = false ∧
      (∀ a, readByte t5 a = readByte t a) ∧ t5.freqPerBin = t.freqPerBin ∧ t5.binRange = t.binRange ∧
      t5.maxDb = t.maxDb ∧ t5.specValid = t.specValid ∧ t5.drawPos = t.drawPos

/-- HOVER (R245, R247): for a query that is not a NaN, with a mapping `[sb, eb)` latched that holds a bin and lies
inside the PSD (as every mapping a run latches does; log entry 15 has the others), it completes with the nearest
visible bin `k` in RESI, its frequency in RES0 and its dB in RES1, and changes nothing else. With `x = ARG0 /
FREQ_PER_BIN`, `k` is `eb - 1` where `x + 0.5` is `+inf`, `sb` where it is `-inf`, and otherwise `min(max(floor(x +
0.5), sb), eb - 1)`, the `floor` of a NaN (`0.0 / 0.0`) being a free value (log entry 10); so `k` is one of the
visible bins. -/
def Obligations.HoverResult : Prop :=
  ∀ s : State,
    let sb : Nat := s.binRange.toNat % 2 ^ 32
    let eb : Nat := s.binRange.toNat / 2 ^ 32
    let x := fdiv s.arg0 s.freqPerBin
    let k : Int :=
      if fadd x 0x3FE0000000000000 = 0x7FF0000000000000 then (eb : Int) - 1
      else if fadd x 0x3FE0000000000000 = 0xFFF0000000000000 then (sb : Int)
      else min (max (ffloor (fadd x 0x3FE0000000000000)) (sb : Int)) ((eb : Int) - 1)
    isNaN s.arg0 = false → s.specValid = true → sb < eb → eb ≤ s.params.nMax / 2 →
      exec .hover s = .next { s with
        resi := BitVec.ofInt 32 k
        res0 := fmul (ofInt k) s.freqPerBin
        res1 := readElement s .psd k.toNat
        err := false, ecode := 0 } ∧
      (sb : Int) ≤ k ∧ k < (eb : Int)

/-! ## Export -/

/-- PACK32 (R270, R271): with COUNT at most `N_MAX` it completes, and byte `4*i + k` of XBUF is byte `k` of the
binary32 encoding of `RE[i]`; nothing else changes but those bytes. -/
def Obligations.Pack32Result : Prop :=
  ∀ s : State, s.count.toNat ≤ s.params.nMax →
    ∃ t, exec .pack32 s = .next t ∧ t = { s with mem := t.mem, err := false, ecode := 0 } ∧
      (∀ a, ¬ StoresTo s .pack32 a → readByte t a = readByte s a) ∧
      ∀ i < s.count.toNat, ∀ k < 4,
        readByte t (0x240000 + 4 * i + k) = (toF32 (readElement s .re i)).extractLsb' (8 * k) 8

/-- R274: two exports (a successful SWEEP, then PACK32) of the same message and configuration, with the same
starting PHASE or PR = 1, and with NZ = 0 or the same sequence of draws, give byte-identical XBUF contents,
whatever else the two states hold. The same sequence of draws is the model's same position of the draw port
(log entry 7). -/
def Obligations.ExportIsDeterministic : Prop :=
  ∀ (s s' t t' u u' : State) (im : IndexMode) (nz pr : Bool),
    SameExportInputs s s' → (pr = true ∨ s'.phase = s.phase) → (nz = false ∨ s'.drawPos = s.drawPos) →
    exec (.sweep im nz pr) s = .next t → exec (.sweep im nz pr) s' = .next t' → t.err = false →
    exec .pack32 t = .next u → exec .pack32 t' = .next u' →
    t'.err = false ∧ u.err = false ∧ u'.err = false ∧
      ∀ a, Within 0x240000 (4 * s.count.toNat) a → readByte u' a = readByte u a
end

