-- ==== Sys2Proof/Tests/Slice0.lean ====
section
/-!
SUPPORT. Tests of the model: a smoke test of each check of well-formedness, the words of every
instruction written out bit by bit, one or two single steps per command against spec/95_test_vectors.md
(the source is named at each), and a witness for the hypotheses of every statement that has some.
No test depends on a NUM function or another free value.
-/

namespace Sys2Proof.Tests

open Sys2Proof Sys2Proof.Machine Sys2Proof.Claims

/-! ## Small states -/

/-- ASK, Rectangular, one bit per symbol, and a legal configuration for every command: `A = 2`,
`fc = 0.25`, `Ts = 1`, `beta = 0.5`, `fs = 8`, noise off, `N = 2`; the message is the byte 0x80. This is
the setting of V-SYN-1. -/
def ask : State :=
  { State.reset with
    modcfg := 0x010, amplitude := fTwo, carrierFreq := 0x3FD0000000000000, symbolPeriod := fOne
    rollOff := fHalf, samplingRate := 0x4020000000000000, snrDb := SNR_OFF, fftSize := 2
    spectrumPower := fOne, span := fFour, msgLen := 1, mem := [(0x010000, 0x80)] }

/-- FSK of the byte 0x40 with `A = fc = Ts = 1`, `beta = 0`, `fs = 8`: the setting of V-SYN-6. -/
def fsk : State :=
  { ask with
    modcfg := 0x011, amplitude := fOne, carrierFreq := fOne, rollOff := 0, mem := [(0x010000, 0x40)] }

/-- PSK of two bits per symbol of the byte 0xB4: the setting of V-SYN-8. -/
def psk : State := { ask with modcfg := 0x022, mem := [(0x010000, 0xB4)] }

/-- `ask` with `xs` in the elements of a memory from 0 on. -/
def filled (r : Region) (xs : List F64) : State := writeElements ask r xs

/-- The setting of V-SPC-7: `PSD = [-120.0, -3.0, 5.5, -7.25]`, `N = 8`, `fs = 8000.0`, and the visible
interval `centre ± span/2`. -/
def mapSetting (centre span : F64) : State :=
  { filled .psd [0xC05E000000000000, 0xC008000000000000, 0x4016000000000000, 0xC01D000000000000] with
    fftSize := 8, samplingRate := 0x40BF400000000000, centerFreq := centre, span := span }

/-- The mapping of the first row of V-SPC-7 latched, and a query: the setting of V-SPC-11. -/
def hoverSetting (query : F64) : State :=
  { (mapSetting 0x409F400000000000 0x409F400000000000).latchMapping 0x408F400000000000 0x0000000300000001
      0x4016000000000000 with arg0 := query }

/-- What a test looks at in the next state, if there is one. -/
def observe {α : Type} (f : State → α) : Host.Outcome State Fault Refusal → Option α
  | .next t => some (f t)
  | .fault _ => none
  | .refused _ => none

/-- Whether an outcome is a next state that records success. -/
def succeeds (o : Host.Outcome State Fault Refusal) : Bool := observe (fun t => !t.err) o == some true

/-- Whether an outcome is a next state that records an error. -/
def fails (o : Host.Outcome State Fault Refusal) : Bool := observe (fun t => t.err) o == some true

theorem succeeds_iff {o : Host.Outcome State Fault Refusal} :
    succeeds o = true ↔ ∃ t, o = .next t ∧ t.err = false := by
  cases o <;> simp [succeeds, observe]

theorem fails_iff {o : Host.Outcome State Fault Refusal} :
    fails o = true ↔ ∃ t, o = .next t ∧ t.err = true := by
  cases o <;> simp [fails, observe]

/-- One step with the given access pending. -/
def access (a : HostAccess) (s : State) : Host.Outcome State Fault Refusal :=
  step { s with hostQueue := [a] }

/-- One step that runs a command word. -/
def command (w : Nat) (s : State) : Host.Outcome State Fault Refusal := step (s.withFetchWord 32 w)

/-! ## Well-formedness: each check of R103 refuses a word that breaks it alone -/

theorem test_reservedClear_refuses_bit10 :
    (CmdFields.mk 1 false false 0 0x00).reservedClear = false
      ∧ (CmdFields.mk 1 false false 0 0x00).legal = false := by decide

theorem test_opcodeDefined_refuses_0x10 :
    (CmdFields.mk 0 false false 0 0x10).opcodeDefined = false
      ∧ (CmdFields.mk 0 false false 0 0x10).legal = false := by decide

theorem test_optionsAccepted_refuses_each_option :
    (CmdFields.mk 0 false true 0 0x00).optionsAccepted = false
      ∧ (CmdFields.mk 0 true false 0 0x0D).optionsAccepted = false
      ∧ (CmdFields.mk 0 false false 1 0x06).optionsAccepted = false := by decide

theorem test_indexModeDefined_refuses_im3 :
    (CmdFields.mk 0 false false 3 0x04).indexModeDefined = false
      ∧ (CmdFields.mk 0 false false 3 0x04).legal = false := by decide

theorem test_every_instruction_form_is_wellFormed :
    (Instr.sweep .wrap true true).wellFormed = true ∧ (Instr.sample .bounded true).wellFormed = true := by decide

/-! ## Decoding: words written out from the fields of R101 (reserved, PR, NZ, IM, OPC) and the map of R102 -/

theorem test_decode_nop : decodeTableWord 32 0b0000000000000000000000_0_0_00_000000 = some .nop := by decide
theorem test_decode_sinc : decodeTableWord 32 0b0000000000000000000000_0_0_00_000001 = some .sinc := by decide
theorem test_decode_rcos : decodeTableWord 32 0b0000000000000000000000_0_0_00_000010 = some .rcos := by decide
theorem test_decode_getsym : decodeTableWord 32 0b0000000000000000000000_0_0_00_000011 = some .getsym := by decide
theorem test_decode_sample :
    decodeTableWord 32 0b0000000000000000000000_0_1_10_000100 = some (.sample .wrap true)
      ∧ decodeTableWord 32 0b0000000000000000000000_0_0_01_000100 = some (.sample .bounded false)
      ∧ decodeTableWord 32 0b0000000000000000000000_0_0_00_000100 = some (.sample .skipneg false) := by decide
theorem test_decode_sweep :
    decodeTableWord 32 0b0000000000000000000000_1_0_01_000101 = some (.sweep .bounded false true)
      ∧ decodeTableWord 32 0b0000000000000000000000_1_1_00_000101 = some (.sweep .skipneg true true)
      ∧ decodeTableWord 32 0b0000000000000000000000_0_1_10_000101 = some (.sweep .wrap true false) := by decide
theorem test_decode_iqpoint :
    decodeTableWord 32 0b0000000000000000000000_0_0_00_000110 = some (.iqpoint false)
      ∧ decodeTableWord 32 0b0000000000000000000000_0_1_00_000110 = some (.iqpoint true) := by decide
theorem test_decode_noise : decodeTableWord 32 0b0000000000000000000000_0_0_00_000111 = some .noise := by decide
theorem test_decode_window : decodeTableWord 32 0b0000000000000000000000_0_0_00_001000 = some .window := by decide
theorem test_decode_fft : decodeTableWord 32 0b0000000000000000000000_0_0_00_001001 = some .fft := by decide
theorem test_decode_power : decodeTableWord 32 0b0000000000000000000000_0_0_00_001010 = some .power := by decide
theorem test_decode_dbscalar : decodeTableWord 32 0b0000000000000000000000_0_0_00_001011 = some .dbscalar := by decide
theorem test_decode_binmap : decodeTableWord 32 0b0000000000000000000000_0_0_00_001100 = some .binmap := by decide
theorem test_decode_spectrum :
    decodeTableWord 32 0b0000000000000000000000_0_0_00_001101 = some (.spectrum false)
      ∧ decodeTableWord 32 0b0000000000000000000000_0_1_00_001101 = some (.spectrum true) := by decide
theorem test_decode_hover : decodeTableWord 32 0b0000000000000000000000_0_0_00_001110 = some .hover := by decide
theorem test_decode_pack32 : decodeTableWord 32 0b0000000000000000000000_0_0_00_001111 = some .pack32 := by decide

/-- V-ENC-2 to V-ENC-7, V-ENC-10 and V-ENC-11, each with the reason of R104. -/
theorem test_decode_illegal_words :
    decode 0x00000100 = .error .optionNotAccepted ∧ decode 0x00000010 = .error .reservedOpcode
      ∧ decode 0x0000003F = .error .reservedOpcode ∧ decode 0x00000400 = .error .reservedBits
      ∧ decode 0x80000001 = .error .reservedBits ∧ decode 0x000000C4 = .error .reservedIndexMode
      ∧ decode 0x0000020D = .error .optionNotAccepted ∧ decode 0x00000046 = .error .optionNotAccepted := by
  decide

/-- The four bytes of a CMD word lie least significant first (spec/20_memory.md R72), and three are no word. -/
theorem test_decode_bytes :
    decodeBytes [0x84, 0x01, 0x00, 0x00] = .ok (.sample .wrap true)
      ∧ decodeBytes [0x84, 0x01, 0x00] = .error .truncated := by decide

/-! ## The host bus and reset (spec/95_test_vectors.md 2.8) -/

/-- V-BUS-1 to V-BUS-4 and V-BUS-9: bus errors; the last leaves STATUS as it was and runs nothing. -/
theorem test_bus_errors :
    observe (·.response) (access (.read 0x000004 .b8) ask) = some .busError
      ∧ observe (·.response) (access (.read 0x000008 .b4) ask) = some .busError
      ∧ observe (·.response) (access (.read 0x0000E0 .b8) ask) = some .busError
      ∧ observe (·.response) (access (.read 0x300000 .b1) ask) = some .busError
      ∧ access (.write 0x000010 .b4 3) ask = .next (ask.respond .busError) := by
  refine ⟨by decide, by decide, by decide, by decide, rfl⟩

/-- V-BUS-5, V-BUS-6 and V-BUS-10: a write to STATUS is ignored, CMD reads 0, and the reserved half of
FFT_SIZE is not stored. -/
theorem test_register_accesses :
    observe (fun t => (t.response, statusWord t)) (access (.write 0x000008 .b8 0xFFFF) ask) = some (.writeDone, 0)
      ∧ observe (·.response) (access (.read 0x000010 .b8) ask) = some (.readData 0)
      ∧ observe (readReg .fftSize) (access (.write 0x000050 .b8 0xFFFFFFFF00000400) ask) = some 0x400 := by decide

/-- V-BUS-7 and V-BUS-8: little-endian memories. -/
theorem test_memory_accesses :
    observe (fun t => readByte t 0x010000) (access (.write 0x010000 .b1 0xB4) ask) = some 0xB4
      ∧ observe (fun t => memRead t 0x100007 1) (access (.write 0x100000 .b8 fOne) ask) = some 0x3F := by decide

/-- Bits 63:32 of a CMD write are ignored (R36): GETSYM runs. -/
theorem test_cmd_upper_half_ignored :
    observe (·.resi) (access (.write 0x000010 .b8 0xFFFFFFFF00000003) ask) = some 1 := by decide

/-- V-RST-1: the first GETSYM after reset fails with CONFIG, the first SINC gives 1.0. -/
theorem test_after_reset :
    observe statusWord (command 0x00000003 State.reset) = some 0x21
      ∧ observe (fun t => (t.res0, statusWord t)) (command 0x00000001 State.reset) = some (fOne, 0) := by decide

/-- An illegal word records ILLEGAL (V-ENC-2). -/
theorem test_illegal_word : observe statusWord (command 0x00000100 ask) = some 0x11 := by decide

/-! ## Arithmetic, by hand from IEEE 754 -/

theorem test_fadd :
    fadd 0x3FB999999999999A 0x3FC999999999999A = 0x3FD3333333333334
      ∧ fadd 0x4340000000000000 fOne = 0x4340000000000000
      ∧ fadd 0x8000000000000000 0 = 0 ∧ fsub 0x0000000000000001 0x0000000000000002 = 0x8000000000000001 := by
  decide

theorem test_fmul_fdiv :
    fmul 0x3FB999999999999A 0x4024000000000000 = fOne ∧ fdiv fOne 0x4008000000000000 = 0x3FD5555555555555
      ∧ fmul 0x7FEFFFFFFFFFFFFF fTwo = fPosInf ∧ fmul 0x0000000000000001 fHalf = 0
      ∧ fdiv fMinusTwo 0 = fNegInf := by decide

theorem test_fsqrt_ffloor :
    fsqrt fTwo = 0x3FF6A09E667F3BCD ∧ fsqrt 0x8000000000000000 = 0x8000000000000000
      ∧ ffloor 0xBFF8000000000000 = -2 ∧ ffloor 0x41E65A0BBFF00000 = 2999999999 := by decide

/-! ## One step per command -/

/-- R273's example: NOP clears a recorded error and keeps SPEC_VALID. -/
theorem test_nop :
    observe statusWord (command 0 { ask with err := true, ecode := 2, specValid := true }) = some 0x100 := by decide

/-- V-PUL-1 and V-PUL-2. -/
theorem test_sinc :
    observe (·.res0) (command 1 { ask with arg0 := 0 }) = some fOne
      ∧ observe (·.res0) (command 1 { ask with arg0 := 0x3DDB7CDFD9D7BDBB }) = some fOne := by decide

/-- V-PUL-11 and V-PUL-23: branch C of the raised cosine. -/
theorem test_rcos_centre :
    rcos 0x3DDB7CDFD9D7BDBB fOne fHalf = fOne ∧ rcos 0 0 fHalf = fOne := by decide

/-- V-PUL-21, V-PUL-22 and V-PUL-24: branch Z. -/
theorem test_rcos_zero :
    observe (·.res0) (command 2 { ask with arg0 := 0x40100000044B82FA, arg1 := fOne, arg2 := fHalf }) = some 0
      ∧ rcos fHalf 0 fHalf = 0 ∧ rcos 0 0xBFF0000000000000 fHalf = 0 := by decide

/-- V-COD-2: index 2 takes two bits of the byte and a padded 0, index 3 is past the end. -/
theorem test_getsym :
    [0, 1, 2, 3].map (fun j => observe (·.resi)
        (command 3 { ask with modcfg := 0x030, mem := [(0x010000, 0xB5)], argi := j }))
      = [some 5, some 5, some 2, some 0] := by decide

/-- V-COD-6 and V-COD-7: BPS of 0 or 17, and a message longer than MSG_CAP. -/
theorem test_getsym_config :
    observe statusWord (command 3 { ask with modcfg := 0x000 }) = some 0x21
      ∧ observe statusWord (command 3 { ask with modcfg := 0x110 }) = some 0x21
      ∧ observe statusWord (command 3 { ask with msgLen := 65537 }) = some 0x21 := by decide

/-- The index resolution table of 2.2, with `NSYM = 4`. -/
theorem test_resolve :
    [-5, -1, 0, 3, 4, 7].map (fun k => (resolve psk k .skipneg, resolve psk k .bounded, resolve psk k .wrap))
      = [(none, none, some 3), (none, none, some 3), (some 0, some 0, some 0), (some 3, some 3, some 3),
         (some 4, none, some 0), (some 7, none, some 3)] := by decide

/-- V-SYN-7 (the phase after each sample: symbol 1 advances it by `3*PI/8`) and V-SYN-11. -/
theorem test_sample_fsk_phase :
    observe (·.phase) (command 4 { fsk with arg0 := fOne }) = some 0x3FF2D97C7F3321D2
      ∧ observe (·.phase) (command 4 { fsk with arg0 := 0x3FF2000000000000, phase := 0x3FF2D97C7F3321D2 })
          = some 0x4002D97C7F3321D2
      ∧ observe (·.phase) (command 4 { fsk with arg0 := 0xBFE0000000000000 }) = some 0x3FE921FB54442D18 := by
  decide +kernel

/-- V-SYN-13 to V-SYN-16: RANGE for an infinite time and for 3.0e9, success at `2^31 - 5`, and CONFIG for a
zero carrier frequency. -/
theorem test_sample_status :
    observe statusWord (command 4 { ask with arg0 := fPosInf }) = some 0x41
      ∧ observe statusWord (command 4 { ask with arg0 := 0x41E65A0BC0000000 }) = some 0x41
      ∧ observe statusWord (command 4 { ask with arg0 := 0x41DFFFFFFEC00000 }) = some 0
      ∧ observe statusWord (command 4 { ask with carrierFreq := 0 }) = some 0x21 := by decide +kernel

/-- V-SYN-6: SWEEP.pr of two samples leaves PHASE two increments of `TWO_PI / 8` on. -/
theorem test_sweep_fsk_phase :
    observe (·.phase) (command 0x205 { fsk with count := 2, phase := 0x4014000000000000 })
      = some 0x3FF921FB54442D18 := by decide +kernel

/-- V-SYN-17 and V-SYN-18. -/
theorem test_sweep_status :
    observe statusWord (command 5 { ask with count := 65537 }) = some 0x31
      ∧ observe statusWord (command 5 { ask with rollOff := 0x3FF8000000000000 }) = some 0x21 := by decide +kernel

/-- V-SYN-12: IQPOINT of another modulation; and PSK succeeds. -/
theorem test_iqpoint_status :
    observe statusWord (command 6 ask) = some 0x51 ∧ observe statusWord (command 6 psk) = some 0 := by decide

/-- V-NZ-10 and V-NZ-14: noise off gives `+0.0` and takes no draw. -/
theorem test_noise_off :
    observe (fun t => (t.res0, t.drawPos)) (command 7 { ask with res0 := fOne }) = some (0, 0)
      ∧ observe (fun t => (t.res0, t.drawPos)) (command 7 { ask with snrDb := fPosInf }) = some (0, 0) := by decide

/-- V-NZ-12 and V-NZ-13 fail with CONFIG; V-NZ-11's setting takes its two draws. -/
theorem test_noise_status_and_draws :
    observe statusWord (command 7 { ask with amplitude := 0xBFF0000000000000 }) = some 0x21
      ∧ observe statusWord (command 7 { ask with snrDb := 0x7FF8000000000000 }) = some 0x21
      ∧ observe (·.drawPos) (command 7 { ask with amplitude := 0, snrDb := 0 }) = some 2 := by decide

/-- V-SPC-2b, with `N = 2`: a rectangular window keeps RE and clears IM. -/
theorem test_window_rectangular :
    observe (fun t => [readElement t .re 0, readElement t .re 1, readElement t .im 0, readElement t .im 1])
        (command 8 (filled .re [fOne, fTwo])) = some [fOne, fTwo, 0, 0] := by decide

/-- V-SPC-12 at FFT: sizes 0, 100, 1 and 131072. -/
theorem test_fft_status :
    [0, 100, 1, 131072].map (fun n => observe statusWord (command 9 { ask with fftSize := n }))
      = [some 0x21, some 0x21, some 0x21, some 0x31] := by decide

/-- R223 for `N = 8`: the order of the elements after the permutation, by hand. -/
theorem test_bit_reversal :
    (bitReverse 3 ((List.range 8).map (fun i => (BitVec.ofNat 64 i, 0)))).map (fun x => x.1.toNat)
      = [0, 4, 2, 6, 1, 5, 3, 7] := by decide

/-- R229: with `N = 2`, POWER leaves PSD[1] and RE as they were. -/
theorem test_power_range :
    observe (fun t => (readElement t .psd 1, readElement t .re 0))
        (command 10 (writeElements (filled .psd [fOne, fTwo]) .re [fFour, fOne])) = some (fTwo, fFour) := by decide

/-- V-SPC-6e: an exponent of 0.5. -/
theorem test_dbscalar_status :
    observe statusWord (command 11 { ask with spectrumPower := fHalf }) = some 0x21 := by decide

/-- The rows of V-SPC-7 in order: BINRANGE and MAX_DB. -/
theorem test_binmap_rows :
    [(0x409F400000000000, 0x409F400000000000), (0x409F400000000000, 0), (0x40B3880000000000, 0x408F400000000000),
     (0xC0A7700000000000, 0x408F400000000000), (0x409F400000000000, 0xC08F400000000000),
     (0x409F400000000000, 0x41CDCD6500000000), (0x40AF3E0000000000, 0)].map
        (fun cs => observe (fun t => (t.binRange, t.maxDb)) (command 12 (mapSetting cs.1 cs.2)))
      = [some (0x0000000300000001, 0x4016000000000000), some (0x0000000300000002, 0x4016000000000000),
         some (0x0000000400000003, 0xC01D000000000000), some (0x0000000100000000, 0xC05E000000000000),
         some (0x0000000300000002, 0x4016000000000000), some (0x0000000400000000, 0x4016000000000000),
         some (0x0000000400000003, 0xC01D000000000000)] := by decide +kernel

/-- V-SPC-7: FREQ_PER_BIN is 1000.0 and STATUS reads 0x100. -/
theorem test_binmap_status :
    observe (fun t => (t.freqPerBin, statusWord t)) (command 12 (mapSetting 0x409F400000000000 0))
      = some (0x408F400000000000, 0x100) := by decide

/-- V-SPC-12, and V-SPC-13 (CONFIG is recorded before ALLOC). -/
theorem test_spectrum_status :
    [100, 131072].map (fun n => observe statusWord (command 13 { ask with fftSize := n })) = [some 0x21, some 0x31]
      ∧ observe statusWord (command 13 { ask with fftSize := 131072, modcfg := 0 }) = some 0x21 := by decide

/-- R244's mapping for `fs = 8`, `N = 2`, and the registers SPECTRUM does not touch. -/
theorem test_spectrum_mapping :
    observe (fun t => (t.freqPerBin, t.binRange, statusWord t, t.phase, t.count))
        (command 13 { ask with phase := fOne, count := 5 })
      = some (fFour, 0x0000000100000000, 0x100, fOne, 5) := by decide +kernel

/-- V-SPC-11, without its infinite and NaN queries. -/
theorem test_hover_rows :
    [0x40976C0000000000, 0x4097700000000000, 0x40A3880000000000, 0x40C1940000000000, 0xC014000000000000].map
        (fun q => observe (fun t => (t.resi, t.res0, t.res1)) (command 14 (hoverSetting q)))
      = [some (1, 0x408F400000000000, 0xC008000000000000), some (2, 0x409F400000000000, 0x4016000000000000),
         some (2, 0x409F400000000000, 0x4016000000000000), some (2, 0x409F400000000000, 0x4016000000000000),
         some (1, 0x408F400000000000, 0xC008000000000000)] := by decide +kernel

/-- V-SPC-11's infinite and NaN queries, and HOVER before any mapping. -/
theorem test_hover_edges :
    observe (·.resi) (command 14 (hoverSetting fPosInf)) = some 2
      ∧ observe (·.resi) (command 14 (hoverSetting fNegInf)) = some 1
      ∧ observe statusWord (command 14 (hoverSetting 0x7FF8000000000000)) = some 0x121
      ∧ observe statusWord (command 14 ask) = some 0x61 := by decide

/-- V-EXP-1: the eight bytes as one little-endian value. -/
theorem test_pack32_bytes :
    observe (fun t => memRead t 0x240000 8) (command 15 { filled .re [fOne, 0xBFE0000000000000] with count := 2 })
      = some 0xBF0000003F800000 := by decide

/-- V-EXP-2 to V-EXP-5 (0.1, -0.0, 1e300, 1e-50), and V-EXP-7. -/
theorem test_pack32_rounding_and_status :
    [0x3FB999999999999A, 0x8000000000000000, 0x7E37E43C8800759C, 0x358DEE7A4AD4B81F].map toF32
        = [0x3DCCCCCD, 0x80000000, 0x7F800000, 0]
      ∧ observe statusWord (command 15 { ask with count := 65537 }) = some 0x31 := by decide

/-! ## Witnesses: for each statement that has hypotheses, a state and operands that meet them together,
clause by clause, at the boundaries where clauses meet -/

/-- A state with the given accesses pending. -/
def queued (q : List HostAccess) : State := { ask with hostQueue := q }

/-- Legal and illegal words that differ in one field: opcodes 0x0F and 0x10, IM = 2 and 3 on SAMPLE, bit 9 on
SWEEP and bit 10, NZ on SPECTRUM and on HOVER. -/
theorem witness_DecodeAcceptsExactlyLegalWords :
    (∃ i, decode 0x0000000F = .ok i) ∧ (∀ i, decode 0x00000010 ≠ .ok i)
      ∧ (∃ i, decode 0x00000084 = .ok i) ∧ (∀ i, decode 0x000000C4 ≠ .ok i)
      ∧ (∃ i, decode 0x00000205 = .ok i) ∧ (∀ i, decode 0x00000405 ≠ .ok i)
      ∧ (∃ i, decode 0x0000010D = .ok i) ∧ (∀ i, decode 0x0000010E ≠ .ok i) := by
  refine ⟨⟨_, rfl⟩, fun i h => ?_, ⟨_, rfl⟩, fun i h => ?_, ⟨_, rfl⟩, fun i h => ?_, ⟨_, rfl⟩, fun i h => ?_⟩ <;>
    cases h

theorem witness_StepRunsDecodedCommand :
    (∃ (s : State) (i : Instr), s.hostQueue = .write 0x000010 .b8 0xFFFFFFFF00000003 :: [.reset]
      ∧ decode ((0xFFFFFFFF00000003 : Word).setWidth 32) = .ok i)
      ∧ (∃ s : State, s.hostQueue = .write 0x000010 .b8 0x10 :: []
        ∧ ∀ i, decode ((0x10 : Word).setWidth 32) ≠ .ok i)
      ∧ (∃ s : State, s.hostQueue = .read 0x000010 .b8 :: []) :=
  ⟨⟨queued [.write 0x000010 .b8 0xFFFFFFFF00000003, .reset], .getsym, rfl, rfl⟩,
    ⟨queued [.write 0x000010 .b8 0x10], rfl, fun i h => by cases h⟩, ⟨queued [.read 0x000010 .b8], rfl⟩⟩

theorem witness_EveryStepCompletes : State.reset.hostQueue = [] := rfl

/-- Good and bad accesses on both sides of a boundary: the last register and the offset after it, the last
8 bytes of XBUF and the address after it, a misaligned read, and a narrow write of a register. -/
theorem witness_BusErrorsAndOnlyThey :
    (∀ k < 8, Mapped ask.params (0x0000D8 + k)) ∧ ¬ Mapped ask.params 0x0000E0
      ∧ (∀ k < 8, Mapped ask.params (0x27FFF8 + k)) ∧ ¬ Mapped ask.params 0x280000
      ∧ 0x000004 % AccessWidth.b8.bytes ≠ 0 ∧ (0x000010 ≤ 0xFF ∧ AccessWidth.b4 ≠ .b8)
      ∧ (queued [.read 0x0000D8 .b8]).hostQueue = .read 0x0000D8 .b8 :: []
      ∧ (queued [.write 0x27FFF8 .b8 1]).hostQueue = .write 0x27FFF8 .b8 1 :: [] := by
  refine ⟨?_, ?_, ?_, ?_, by decide, by decide, rfl, rfl⟩ <;> simp only [Mapped] <;> decide

theorem witness_RegisterAccessAtItsOffset :
    (queued [.read (BitVec.ofNat 24 (registerOffset .modcfg)) .b8]).hostQueue
        = .read (BitVec.ofNat 24 (registerOffset .modcfg)) .b8 :: []
      ∧ RegName.status ≠ .cmd
      ∧ (queued [.write (BitVec.ofNat 24 (registerOffset .status)) .b8 0xFFFF]).hostQueue
        = .write (BitVec.ofNat 24 (registerOffset .status)) .b8 0xFFFF :: [] := ⟨rfl, by decide, rfl⟩

/-- The last byte of MSG and the last 8 bytes of XBUF. -/
theorem witness_MemoryReadAfterWrite :
    busTarget ask.params 0x01FFFF .b1 = .ok .msg ∧ Region.msg ≠ .registers
      ∧ busTarget ask.params 0x27FFF8 .b8 = .ok .xbuf ∧ Region.xbuf ≠ .registers
      ∧ (queued [.write 0x01FFFF .b1 0xB4]).hostQueue = .write 0x01FFFF .b1 0xB4 :: [] :=
  ⟨rfl, by decide, rfl, by decide, rfl⟩

theorem witness_ResetStep : (queued [.reset, .read 0 .b8]).hostQueue = .reset :: [.read 0 .b8] := rfl

/-- A state with a mapping latched, a written byte and an error recorded meets the invariant, and steps. -/
theorem witness_StepKeepsInvariant :
    ∃ s t : State, s.Inv ∧ s.specValid = true ∧ s.mem ≠ [] ∧ s.err = true ∧ step s = .next t :=
  ⟨{ (ask.latchMapping fOne 0x0000000100000000 fOne).recordError .range with hostQueue := [.reset] }, _,
    ⟨by decide, by decide, by decide, by decide, by decide⟩, rfl, by decide, rfl, rfl⟩

theorem witness_StepKeepsParametersAndOrder : ∃ s t : State, step s = .next t ∧ s.hostQueue ≠ [] :=
  ⟨queued [.write 0x000010 .b8 7], _, rfl, by decide⟩

/-- One failing command for each error code, 1 to 6. -/
theorem witness_FailingCommandLeavesNoTrace :
    fails (runCommand 0x100 ask) = true ∧ fails (runCommand 0x009 State.reset) = true
      ∧ fails (runCommand 0x009 { ask with fftSize := 0x20000 }) = true
      ∧ fails (runCommand 0x004 { ask with arg0 := fPosInf }) = true
      ∧ fails (runCommand 0x006 ask) = true ∧ fails (runCommand 0x00E ask) = true := by decide

/-- Commands that fail, for `CommandRaisesOnlyItsErrors` and the failing half of the frame. -/
theorem witness_CommandRaisesOnlyItsErrors :
    (∃ t, exec .fft State.reset = .next t ∧ t.err = true) ∧ (∃ t, exec .hover ask = .next t ∧ t.err = true) :=
  ⟨fails_iff.mp (by decide), fails_iff.mp (by decide)⟩

/-- A command that writes RES0, one that writes the mapping, and one that writes neither. -/
theorem witness_CommandsWriteOnlyTheirRegisters :
    (∃ t, exec .sinc ask = .next t ∧ t.err = false) ∧ (∃ t, exec .binmap ask = .next t ∧ t.err = false)
      ∧ (∃ t, exec .power ask = .next t ∧ t.err = false) :=
  ⟨succeeds_iff.mp (by decide), succeeds_iff.mp (by decide), succeeds_iff.mp (by decide)⟩

/-- SAMPLE of an ASK signal, and SPECTRUM of an FSK one. -/
theorem witness_OnlySampleAndSweepWritePhase :
    (∃ t, exec (.sample .wrap false) ask = .next t ∧ t.err = false) ∧ modKind ask ≠ .fsk
      ∧ (∃ t, exec (.spectrum false) fsk = .next t ∧ t.err = false) ∧ modKind fsk = .fsk :=
  ⟨succeeds_iff.mp (by decide +kernel), by decide, succeeds_iff.mp (by decide +kernel), by decide⟩

/-- A byte PACK32 stores to and the byte after it, and a failing SWEEP. -/
theorem witness_CommandsStoreOnlyToTheirRanges :
    (∃ t, exec .pack32 { ask with count := 1 } = .next t)
      ∧ StoresTo { ask with count := 1 } .pack32 0x240003 ∧ ¬ StoresTo { ask with count := 1 } .pack32 0x240004
      ∧ (∃ t, exec (.sweep .wrap false true) State.reset = .next t ∧ t.err = true) := by
  refine ⟨⟨_, rfl⟩, ?_, ?_, fails_iff.mp (by decide)⟩ <;> simp only [StoresTo, Within] <;> decide

theorem witness_SpecValidIsSticky :
    (∃ t, exec .binmap ask = .next t ∧ t.err = false)
      ∧ (∃ t, exec .nop { ask with specValid := true } = .next t ∧ t.err = false)
      ∧ (∃ t, exec .binmap { State.reset with specValid := true } = .next t ∧ t.err = true) :=
  ⟨succeeds_iff.mp (by decide), succeeds_iff.mp (by decide), fails_iff.mp (by decide)⟩

/-- A noisy IQPOINT and a noisy SWEEP of two samples succeed with four draws each; a failing one takes none. -/
theorem witness_CommandsTakeTheirDraws :
    (∃ t, exec (.iqpoint true) { psk with snrDb := 0 } = .next t ∧ t.err = false)
      ∧ DrawsOf { psk with snrDb := 0 } (.iqpoint true) = 4
      ∧ (∃ t, exec (.sweep .wrap true false) { ask with snrDb := 0, count := 2 } = .next t ∧ t.err = false)
      ∧ DrawsOf { ask with snrDb := 0, count := 2 } (.sweep .wrap true false) = 4
      ∧ (∃ t, exec .noise { ask with snrDb := fNegInf } = .next t ∧ t.err = true) :=
  ⟨succeeds_iff.mp (by decide +kernel), by decide, succeeds_iff.mp (by decide +kernel), by decide,
    fails_iff.mp (by decide)⟩

theorem witness_ComparisonsAndNaN :
    isNaN 0x7FF0000000000001 = true ∧ isNaN 0xFFF8000000000000 = true ∧ isNaN fPosInf = false := by decide

theorem witness_NaNPropagates : isNaN 0x7FF8000000000000 = true := by decide

/-- Both ends of the exact range. -/
theorem witness_IntegerConversionExact :
    Int.natAbs (2 ^ 53) ≤ 2 ^ 53 ∧ Int.natAbs (-(2 ^ 53)) ≤ 2 ^ 53 := by decide

theorem witness_MultiplyByOneExact : isNaN 0x8000000000000001 = false ∧ isNaN fNegInf = false := by decide

/-- The default `RMAX`, and the largest one that meets the bound. -/
theorem witness_UniformInUnitInterval :
    ask.params.rMax < 2 ^ 53
      ∧ ({ ask with params := { ask.params with rMaxPred := 2 ^ 53 - 2 } } : State).params.rMax < 2 ^ 53 := by
  decide

theorem witness_NopClearsErrorOnly : (0x00000100 : CmdWord).toNat % 64 = 0 ∧ (0x00000100 : CmdWord) ≠ 0 := by
  decide

/-- `Ts = +0.0` and `Ts` the least negative value, and an offset just above `4*Ts`. -/
theorem witness_RcosCornerCases :
    isZero 0x8000000000000000 = true ∧ fle 0 0x0000000000000000 = true
      ∧ isNaN 0x0000000000000000 = false ∧ flt 0x8000000000000001 0 = true
      ∧ flt (fmul fFour fOne) (fabs 0x4010000000000001) = true := by decide

/-- The last symbol inside a message of one byte, and the first past its end. -/
theorem witness_SymbolBits : 7 * 1 / 8 < ask.msgLen.toNat ∧ ask.msgLen.toNat ≤ 8 * 1 / 8 := by decide

theorem witness_SymbolCountCountsSymbols : 1 ≤ bitsPerSymbol ask := by decide

/-- With four symbols: -1, 3 and 4. -/
theorem witness_IndexModesResolve :
    (-1 : Int) < 0 ∧ 3 < symbolCount psk ∧ (symbolCount psk : Int) ≤ 4 ∧ 0 < symbolCount psk := by decide

/-- BPS 1, 16, 0 and 17; MSG_LEN at and above MSG_CAP. -/
theorem witness_GetsymResult :
    (1 ≤ bitsPerSymbol ask ∧ bitsPerSymbol ask ≤ 16 ∧ ask.msgLen.toNat ≤ ask.params.msgCap)
      ∧ (bitsPerSymbol { ask with modcfg := 0x100 } = 16
        ∧ ({ ask with msgLen := 65536 } : State).msgLen.toNat ≤ ask.params.msgCap)
      ∧ bitsPerSymbol { ask with modcfg := 0x000 } = 0 ∧ 16 < bitsPerSymbol { ask with modcfg := 0x110 }
      ∧ ask.params.msgCap < ({ ask with msgLen := 65537 } : State).msgLen.toNat := by decide

/-- The first and last legal symbols, with noise off and on, and a time out of range under WRAP with an empty
message. -/
theorem witness_SampleResult :
    (vSyn ask = true ∧ vNoise ask = true ∧ vSyn { ask with snrDb := 0 } = true ∧ vNoise { ask with snrDb := 0 } = true
      ∧ symIndexOk ask 0x41DFFFFFFEC00000 = true ∧ symIndexOk ask 0xC1DFFFFFFF000000 = true)
      ∧ (vSyn { ask with msgLen := 0 } = true ∧ symIndexOk { ask with msgLen := 0 } fPosInf = false
        ∧ symbolCount { ask with msgLen := 0 } = 0) := by decide +kernel

/-- Each cause of an error: a configuration, a noise setting, a COUNT one above `N_MAX`, and times one symbol
beyond each end of the range. -/
theorem witness_SampleAndSweepErrors :
    vSyn { ask with symbolPeriod := 0 } = false ∧ vNoise { ask with snrDb := fNegInf } = false
      ∧ (vSyn { ask with count := 65537 } = true ∧ ask.params.nMax < (65537 : BitVec 32).toNat)
      ∧ (isFinite (fdiv fPosInf ask.symbolPeriod) = false
        ∧ ffloor (fdiv 0xC1DFFFFFFF400000 ask.symbolPeriod) < -2 ^ 31 + 4
        ∧ 2 ^ 31 - 5 < ffloor (fdiv 0x41DFFFFFFF000000 ask.symbolPeriod) ∧ symbolCount ask ≠ 0)
      ∧ (0 < ({ ask with arg0 := fPosInf, count := 1 } : State).count.toNat
        ∧ symIndexOk ask (fadd fPosInf (fdiv (ofNat 0) ask.samplingRate)) = false) := by decide +kernel

/-- Two samples in range; and COUNT = `N_MAX` for an empty message under WRAP. -/
theorem witness_SweepResult :
    (vSyn { ask with count := 2 } = true ∧ (2 : BitVec 32).toNat ≤ ask.params.nMax
      ∧ ∀ i < 2, symIndexOk ask (fadd ask.arg0 (fdiv (ofNat i) ask.samplingRate)) = true)
      ∧ (vSyn { ask with count := 65536, msgLen := 0 } = true ∧ (65536 : BitVec 32).toNat ≤ ask.params.nMax
        ∧ symbolCount { ask with count := 65536, msgLen := 0 } = 0) := by decide +kernel

theorem witness_SweepSamplesItsGrid :
    modKind { ask with count := 2 } ≠ .fsk
      ∧ ∃ t, exec (.sweep .bounded false true) { ask with count := 2 } = .next t ∧ t.err = false :=
  ⟨by decide, succeeds_iff.mp (by decide +kernel)⟩

/-- Two samples; and an empty message under WRAP. -/
theorem witness_SweepAccumulatesPhase :
    (modKind { fsk with count := 2 } = .fsk ∧ symbolCount { fsk with count := 2 } ≠ 0
      ∧ ∃ t, exec (.sweep .wrap false false) { fsk with count := 2 } = .next t ∧ t.err = false)
      ∧ (symbolCount { fsk with count := 2, msgLen := 0 } = 0
        ∧ ∃ t, exec (.sweep .wrap false true) { fsk with count := 2, msgLen := 0 } = .next t ∧ t.err = false) :=
  ⟨⟨by decide, by decide, succeeds_iff.mp (by decide +kernel)⟩, by decide, succeeds_iff.mp (by decide +kernel)⟩

theorem witness_SynthesizerKernels :
    (1 ≤ bitsPerSymbol ask ∧ modKind ask = .ask ∧ symbolCount ask ≠ 0)
      ∧ (1 ≤ bitsPerSymbol psk ∧ modKind psk = .psk ∧ symbolCount psk ≠ 0)
      ∧ (1 ≤ bitsPerSymbol fsk ∧ modKind fsk = .fsk ∧ symbolCount fsk ≠ 0)
      ∧ symbolCount { ask with msgLen := 0 } = 0 := by decide

/-- PSK with SNR_DB at 100.0 and just below it, another modulation, and each cause of CONFIG. -/
theorem witness_IqpointResult :
    (vMod psk = true ∧ snrOk psk = true ∧ modKind psk = .psk ∧ flt psk.snrDb SNR_OFF = false)
      ∧ (vMod { psk with snrDb := 0x4058FFFFFFFFFFFF } = true ∧ snrOk { psk with snrDb := 0x4058FFFFFFFFFFFF } = true
        ∧ flt 0x4058FFFFFFFFFFFF SNR_OFF = true) ∧ (vMod ask = true ∧ modKind ask ≠ .psk)
      ∧ vMod State.reset = false ∧ snrOk { psk with snrDb := fNegInf } = false := by decide

/-- SNR_DB just below 100.0, at it, and not a number. -/
theorem witness_NoiseResult :
    (vNoise { ask with snrDb := 0x4058FFFFFFFFFFFF } = true ∧ flt 0x4058FFFFFFFFFFFF SNR_OFF = true)
      ∧ (vNoise ask = true ∧ flt ask.snrDb SNR_OFF = false)
      ∧ vNoise { ask with snrDb := 0x7FF8000000000000 } = false := by decide

theorem witness_NoiseOffIsExact : vNoise ask = true ∧ fle SNR_OFF ask.snrDb = true := by decide

/-- The least and the greatest legal FFT size. -/
theorem witness_legal_fft_sizes : LegalFftSize ask ∧ LegalFftSize { ask with fftSize := 65536 } :=
  ⟨⟨⟨1, by decide, by decide⟩, by decide⟩, ⟨⟨16, by decide, by decide⟩, by decide⟩⟩

theorem witness_WindowResult :
    LegalFftSize ask ∧ winKind ask = .rectangular ∧ winKind { ask with modcfg := 0x014 } = .hann
      ∧ winKind { ask with modcfg := 0x018 } = .hamming :=
  ⟨witness_legal_fft_sizes.1, by decide, by decide, by decide⟩

theorem witness_BitReversePermutes : (List.replicate 8 (fZero, fZero)).length = 2 ^ 3 := by decide

/-- The greatest size; and, over eight elements, the last butterfly of the last stage and of the first. -/
theorem witness_FftResult :
    LegalFftSize { ask with fftSize := 65536 }
      ∧ ((List.replicate 8 (fZero, fZero)).length = 2 ^ 3 ∧ 2 < 3 ∧ 0 < 2 ^ (3 - 2 - 1) ∧ 3 < 2 ^ 2)
      ∧ (0 < 3 ∧ 3 < 2 ^ (3 - 0 - 1) ∧ 0 < 2 ^ 0) := ⟨witness_legal_fft_sizes.2, by decide, by decide⟩

theorem witness_FftOfTwo : ∃ t, ask.fftSize = 2 ∧ exec .fft ask = .next t := ⟨_, rfl, rfl⟩

theorem witness_PowerResult : LegalFftSize ask ∧ vPow ask = true := ⟨witness_legal_fft_sizes.1, by decide⟩

theorem witness_DbscalarResult :
    LegalFftSize { ask with fftSize := 65536 } ∧ vPow { ask with fftSize := 65536 } = true :=
  ⟨witness_legal_fft_sizes.2, by decide⟩

theorem witness_VisibleRangeIsLegal : 1 ≤ halfLength ask := by decide

/-- A range of one bin and one whose first element is a NaN. -/
theorem witness_PeakIsGreatestBin :
    (0 < 1 ∧ isNaN (readElement (filled .psd [fOne, fTwo]) .psd 0) = false)
      ∧ isNaN (readElement (filled .psd [0x7FF8000000000000, fTwo]) .psd 0) = true := by decide

theorem witness_BinmapResult : LegalFftSize ask ∧ vMap ask = true := ⟨witness_legal_fft_sizes.1, by decide⟩

/-- Each cause of an error of the spectral commands, PACK32 and HOVER. -/
theorem witness_SpectralAndExportErrors :
    (¬ PowerOfTwoSize 0 ∧ ¬ PowerOfTwoSize 1 ∧ ¬ PowerOfTwoSize 100)
      ∧ winKind { ask with modcfg := 0x01C } = .reserved ∧ vPow { ask with spectrumPower := fHalf } = false
      ∧ vMap { ask with span := fPosInf } = false ∧ vSyn State.reset = false
      ∧ isFinite fPosInf = false ∧ vNoise { ask with snrDb := fNegInf } = false
      ∧ (PowerOfTwoSize 131072 ∧ ask.params.nMax < 131072 ∧ vSyn { ask with fftSize := 131072 } = true
        ∧ vPow ask = true ∧ vMap ask = true ∧ isFinite ask.timeOffset = true ∧ vNoise ask = true)
      ∧ (symbolCount ask ≠ 0 ∧ isFinite 0x41DFFFFFFF000000 = true
        ∧ symIndexOk ask (fadd 0x41DFFFFFFF000000 (fdiv (ofNat 1) ask.samplingRate)) = false)
      ∧ isNaN 0x7FF8000000000000 = true ∧ isNaN ask.arg0 = false ∧ ask.specValid = false := by
  have h : ∀ n, n = 0 ∨ n = 1 ∨ n = 100 → ¬ PowerOfTwoSize n := by
    rintro n hn ⟨m, hm, rfl⟩
    have : m < 7 ∨ 7 ≤ m := Nat.lt_or_ge m 7
    rcases this with h | h
    · interval_cases m <;> simp at hn
    · have := Nat.pow_le_pow_right (n := 2) (by decide) h
      omega
  exact ⟨⟨h _ (by decide), h _ (by decide), h _ (by decide)⟩, by decide, by decide, by decide, by decide, by decide,
    by decide, ⟨⟨17, by decide, by decide⟩, by decide, by decide, by decide, by decide, by decide, by decide⟩,
    ⟨by decide, by decide, by decide +kernel⟩, by decide, by decide, by decide⟩

/-- An in-range block, and an empty message with a start time out of range. -/
theorem witness_SpectrumResult :
    (LegalFftSize ask ∧ vSyn ask = true ∧ winKind ask ≠ .reserved ∧ vPow ask = true ∧ vMap ask = true
      ∧ isFinite ask.timeOffset = true ∧ vNoise ask = true
      ∧ ∀ i < ask.fftSize.toNat, symIndexOk ask (fadd ask.timeOffset (fdiv (ofNat i) ask.samplingRate)) = true)
      ∧ symbolCount { ask with msgLen := 0 } = 0 ∧ vSyn { ask with msgLen := 0 } = true :=
  ⟨⟨witness_legal_fft_sizes.1, by decide, by decide, by decide, by decide, by decide, by decide,
    by decide +kernel⟩, by decide, by decide⟩

/-- With noise and a message, and with noise asked for and no message, TIME_OFFSET and COUNT at other values than
ARG0 and FFT_SIZE. -/
theorem witness_SpectrumEqualsItsSteps :
    (∃ s t, exec (.spectrum true) s = .next t ∧ t.err = false ∧ s.timeOffset ≠ s.arg0 ∧ s.count ≠ s.fftSize
      ∧ symbolCount s ≠ 0)
      ∧ (∃ s t, exec (.spectrum true) s = .next t ∧ t.err = false ∧ symbolCount s = 0) := by
  have h1 : succeeds (exec (.spectrum true) { ask with timeOffset := fOne, snrDb := 0 }) = true := by decide +kernel
  have h2 : succeeds (exec (.spectrum true) { ask with msgLen := 0, snrDb := 0 }) = true := by decide +kernel
  obtain ⟨t1, e1, n1⟩ := succeeds_iff.mp h1
  obtain ⟨t2, e2, n2⟩ := succeeds_iff.mp h2
  exact ⟨⟨_, t1, e1, n1, by decide, by decide, by decide⟩, ⟨_, t2, e2, n2, by decide⟩⟩

/-- A mapping inside the PSD, and one that ends at its last bin. -/
theorem witness_HoverResult :
    (isNaN (hoverSetting fOne).arg0 = false ∧ (hoverSetting fOne).specValid = true
      ∧ (hoverSetting fOne).binRange.toNat % 2 ^ 32 < (hoverSetting fOne).binRange.toNat / 2 ^ 32
      ∧ (hoverSetting fOne).binRange.toNat / 2 ^ 32 ≤ (hoverSetting fOne).params.nMax / 2)
      ∧ (0x0000800000007FFF : BitVec 64).toNat % 2 ^ 32 < (0x0000800000007FFF : BitVec 64).toNat / 2 ^ 32
      ∧ (0x0000800000007FFF : BitVec 64).toNat / 2 ^ 32 ≤ (hoverSetting fOne).params.nMax / 2 := by decide

/-- COUNT at `N_MAX`. -/
theorem witness_Pack32Result : ({ ask with count := 65536 } : State).count.toNat ≤ ask.params.nMax := by decide

/-- Two states that differ in PHASE, in the draw port, in a result register and in RE, and the same export. -/
theorem witness_ExportIsDeterministic :
    ∃ s s' t t' u u' : State, s ≠ s' ∧ SameExportInputs s s'
      ∧ exec (.sweep .bounded false true) s = .next t ∧ exec (.sweep .bounded false true) s' = .next t'
      ∧ t.err = false ∧ exec .pack32 t = .next u ∧ exec .pack32 t' = .next u' := by
  let a : State := { ask with count := 1 }
  let b : State :=
    { ask with count := 1, phase := fOne, drawPos := 5, res0 := fTwo, mem := [(0x010000, 0x80), (0x100000, 1)] }
  have h1 : succeeds (exec (.sweep .bounded false true) a) = true := by decide +kernel
  obtain ⟨t, e, n⟩ := succeeds_iff.mp h1
  have h2 : succeeds (exec (.sweep .bounded false true) b) = true := by decide +kernel
  obtain ⟨t', e', _⟩ := succeeds_iff.mp h2
  have hp : ∀ s : State, ∃ u, exec .pack32 s = .next u := fun s => by
    simp only [exec, execPack32, guarded]
    split <;> exact ⟨_, rfl⟩
  obtain ⟨u, hu⟩ := hp t
  obtain ⟨u', hu'⟩ := hp t'
  exact ⟨a, b, t, t', u, u', by decide, ⟨rfl, by simp [SameConfiguration, a, b], by decide⟩, e, e', n, hu, hu'⟩

end Sys2Proof.Tests
end

section
/-!
PROOFS. Register accesses on the host bus, and the command a write to CMD runs (spec/10_state.md R36).
-/

namespace Sys2Proof.Machine

/-! ### The bus target of a register -/

/-- An aligned 8-byte access at a register's offset is mapped, whatever the instance's parameters (R71, R75). -/
theorem busTarget_offset (p : Config.Params) (r : RegName) :
    busTarget p (BitVec.ofNat 24 r.offset) .b8 = .ok .registers := by
  cases r <;> rfl

/-- No two registers share an offset, so the register map finds each one at its own (R33). -/
theorem RegName.ofOffset_offset (r : RegName) :
    RegName.ofOffset (BitVec.ofNat 24 r.offset).toNat = some r := by
  cases r <;> rfl

/-! ### Register accesses -/

/-- A read at a register's offset returns the register and changes nothing (R78). -/
theorem hostRead_offset (r : RegName) (s : State) :
    hostRead (BitVec.ofNat 24 r.offset) .b8 s = .next (s.respond (.readData (readReg r s))) := by
  simp only [hostRead, busRead, busTarget_offset, RegName.ofOffset_offset]

/-- A write at CMD's offset runs the word in bits 31:0 and then completes (R36, R80). -/
theorem hostWrite_cmd (v : Word) (s : State) :
    hostWrite (BitVec.ofNat 24 RegName.cmd.offset) .b8 v s
      = completeWith .writeDone (runCommand (v.setWidth 32) s) := by
  simp only [hostWrite, busTarget_offset, RegName.ofOffset_offset]

/-! ### Running a command word -/

/-- A word that decodes is its instruction (R105). -/
theorem runCommand_of_decode {w : CmdWord} {i : Instr} (h : decode w = .ok i) (s : State) :
    runCommand w s = exec i s := by
  simp only [runCommand, h]

/-- A word that decodes to no instruction raises ILLEGAL (R105). -/
theorem runCommand_of_not_decode {w : CmdWord} (h : ∀ i, decode w ≠ .ok i) (s : State) :
    runCommand w s = .next (s.recordError .illegal) := by
  cases hd : decode w with
  | ok i => exact absurd hd (h i)
  | error e => simp only [runCommand, hd, raise]

/-! ### The step of an access to CMD -/

/-- The step of a pending CMD write runs its word with the access taken off the queue. -/
theorem step_cmdWrite {s : State} {v : Word} {rest : List HostAccess}
    (h : s.hostQueue = .write 0x000010 .b8 v :: rest) :
    step s = completeWith .writeDone (runCommand (v.setWidth 32) { s with hostQueue := rest }) :=
  (step_access h).trans (hostWrite_cmd v _)

/-- The step of a pending CMD read answers 0 with the access taken off the queue. -/
theorem step_cmdRead {s : State} {rest : List HostAccess} (h : s.hostQueue = .read 0x000010 .b8 :: rest) :
    step s = .next ({ s with hostQueue := rest }.respond (.readData 0)) :=
  (step_access h).trans (hostRead_offset .cmd _)

end Sys2Proof.Machine

namespace Sys2Proof.Claims

open Sys2Proof Sys2Proof.Machine

/-- Settles O4: the step performs the access to CMD, and the cases are those of decoding the word. -/
theorem stepRunsDecodedCommand : Obligations.StepRunsDecodedCommand := by
  intro s rest
  refine ⟨fun v i hq hd => ?decodes, fun v hq hd => ?illegal, fun hq => ?read⟩
  case decodes => rw [step_cmdWrite hq, runCommand_of_decode hd]
  case illegal =>
    rw [step_cmdWrite hq, runCommand_of_not_decode hd]
    rfl
  case read => exact step_cmdRead hq

end Sys2Proof.Claims
end

section
/-!
PROOFS. Which host accesses are bus errors, and how every other access completes (spec/20_memory.md R71,
R75 to R78).
-/

namespace Sys2Proof.Machine

open Sys2Proof.Claims

/-! ### The mapped parts -/

/-- A mapped byte is a byte of some region's mapped part (R71). -/
theorem mapped_iff_exists_region {p : Config.Params} {a : Nat} :
    Mapped p a ↔ ∃ r : Region, r.base ≤ a ∧ a < r.base + r.size p := by
  constructor
  · rintro (h | h | h | h | h | h)
    · exact ⟨.registers, Nat.zero_le a, by simpa [Region.base, Region.size] using h⟩
    · exact ⟨.msg, h⟩
    · exact ⟨.re, h⟩
    · exact ⟨.im, h⟩
    · exact ⟨.psd, h⟩
    · exact ⟨.xbuf, h⟩
  · rintro ⟨r, hlo, hhi⟩
    cases r with
    | registers => exact .inl (by simpa [Region.base, Region.size] using hhi)
    | msg => exact .inr (.inl ⟨hlo, hhi⟩)
    | re => exact .inr (.inr (.inl ⟨hlo, hhi⟩))
    | im => exact .inr (.inr (.inr (.inl ⟨hlo, hhi⟩)))
    | psd => exact .inr (.inr (.inr (.inr (.inl ⟨hlo, hhi⟩))))
    | xbuf => exact .inr (.inr (.inr (.inr (.inr ⟨hlo, hhi⟩))))

theorem AccessWidth.bytes_pos (w : AccessWidth) : 0 < w.bytes := by cases w <;> decide

/-- Every region begins at a multiple of every access width. -/
theorem AccessWidth.bytes_dvd_base (w : AccessWidth) (r : Region) : w.bytes ∣ r.base := by
  cases w <;> cases r <;> decide

/-- An aligned access whose bytes are all mapped lies in one region: since regions begin at multiples of the
width, the region of its last byte begins no later than its first. -/
theorem exists_region_of_aligned_of_mapped {p : Config.Params} {a : Nat} {w : AccessWidth}
    (hal : a % w.bytes = 0) (hmap : ∀ k < w.bytes, Mapped p (a + k)) :
    ∃ r : Region, r.base ≤ a ∧ a + w.bytes ≤ r.base + r.size p := by
  have hpos := w.bytes_pos
  obtain ⟨r, hlo, hhi⟩ := mapped_iff_exists_region.mp (hmap (w.bytes - 1) (by omega))
  obtain ⟨m, hm⟩ := Nat.dvd_of_mod_eq_zero hal
  obtain ⟨b, hb⟩ := w.bytes_dvd_base r
  have hbm : b < m + 1 := Nat.lt_of_mul_lt_mul_left (a := w.bytes) (by rw [Nat.mul_add_one]; omega)
  have hle : w.bytes * b ≤ w.bytes * m := Nat.mul_le_mul_left _ (by omega)
  exact ⟨r, by omega, by omega⟩

/-- The search finds a region exactly when some region holds all the bytes. -/
theorem Region.exists_holding_iff {p : Config.Params} {a n : Nat} :
    (∃ r, Region.holding p a n = some r) ↔ ∃ r : Region, r.base ≤ a ∧ a + n ≤ r.base + r.size p := by
  refine ⟨fun ⟨r, h⟩ => ⟨r, Region.holding_some h⟩, fun ⟨r, hlo, hhi⟩ => ?_⟩
  rw [← Option.isSome_iff_exists, Region.holding, List.find?_isSome]
  exact ⟨r, by cases r <;> decide, by simp [hlo, hhi]⟩

/-- Of the regions only the registers lie below 0x100. -/
theorem Region.eq_registers_of_base_le {r : Region} (h : r.base ≤ 0xFF) : r = .registers := by
  revert h; cases r <;> decide

theorem Region.admits_iff {r : Region} {w : AccessWidth} : r.admits w = true ↔ r = .registers → w = .b8 := by
  cases r <;> simp [Region.admits]

/-! ### The bus errors -/

/-- The access is misaligned, narrower than a register it addresses, or touches an unmapped byte (R75, R76). -/
def BadAccess (p : Config.Params) (addr : Addr) (w : AccessWidth) : Prop :=
  addr.toNat % w.bytes ≠ 0 ∨ (addr.toNat ≤ 0xFF ∧ w ≠ .b8) ∨ ∃ k < w.bytes, ¬ Mapped p (addr.toNat + k)

/-- An access that has a target is none of the bad ones. -/
theorem not_badAccess_of_busTarget_ok {p : Config.Params} {addr : Addr} {w : AccessWidth} {r : Region}
    (h : busTarget p addr w = .ok r) : ¬ BadAccess p addr w := by
  obtain ⟨hal, hlo, hhi, hadm⟩ := busTarget_ok h
  rintro (hmis | ⟨hreg, hw⟩ | ⟨k, hk, hun⟩)
  · exact hmis hal
  · exact hw (Region.admits_iff.mp hadm (Region.eq_registers_of_base_le (hlo.trans hreg)))
  · exact hun (mapped_iff_exists_region.mpr ⟨r, by omega, by omega⟩)

/-- An access that is none of the bad ones has a target. -/
theorem busTarget_ok_of_not_badAccess {p : Config.Params} {addr : Addr} {w : AccessWidth}
    (h : ¬ BadAccess p addr w) : ∃ r, busTarget p addr w = .ok r := by
  simp only [BadAccess, not_or, not_and, not_exists, not_not] at h
  obtain ⟨hal, hwidth, hmap⟩ := h
  obtain ⟨r, hr⟩ := Region.exists_holding_iff.mpr (exists_region_of_aligned_of_mapped hal hmap)
  have hadm : r.admits w = true := Region.admits_iff.mpr fun hreg => hwidth <| by
    subst hreg
    have hhi := (Region.holding_some hr).2
    simp only [Region.base, Region.size] at hhi
    omega
  exact ⟨r, by simp [busTarget, hal, hr, hadm]⟩

/-- The bus errors are exactly the bad accesses (R77). -/
theorem busTarget_error_iff {p : Config.Params} {addr : Addr} {w : AccessWidth} :
    busTarget p addr w = .error .busError ↔ BadAccess p addr w := by
  constructor
  · intro he
    by_contra hbad
    obtain ⟨r, hr⟩ := busTarget_ok_of_not_badAccess hbad
    cases he.symm.trans hr
  · intro hbad
    cases ht : busTarget p addr w with
    | error f => cases f; rfl
    | ok r => exact absurd hbad (not_badAccess_of_busTarget_ok ht)

/-- A register stands at every multiple of 8 below 0xE0 (R33). -/
theorem RegName.exists_ofOffset {k : Nat} (h : k < 28) : ∃ r, RegName.ofOffset (8 * k) = some r := by
  have hall : ∀ k < 28, (RegName.ofOffset (8 * k)).isSome = true := by decide
  exact Option.isSome_iff_exists.mp (hall k h)

/-- An access that goes to the register region goes to a register. -/
theorem exists_ofOffset_of_busTarget_registers {p : Config.Params} {addr : Addr} {w : AccessWidth}
    (h : busTarget p addr w = .ok .registers) : ∃ r, RegName.ofOffset addr.toNat = some r := by
  obtain ⟨hal, -, hhi, hadm⟩ := busTarget_ok h
  obtain rfl : w = .b8 := Region.admits_iff.mp hadm rfl
  simp only [AccessWidth.bytes, Region.base, Region.size] at hal hhi
  obtain ⟨k, hk⟩ := Nat.dvd_of_mod_eq_zero hal
  rw [hk]
  exact RegName.exists_ofOffset (by omega)

/-! ### Reads -/

theorem busRead_register {s : State} {addr : Addr} {w : AccessWidth} {q : RegName}
    (h : busTarget s.params addr w = .ok .registers) (hq : RegName.ofOffset addr.toNat = some q) :
    busRead s addr w = .ok (readReg q s) := by
  simp only [busRead, h, hq]

theorem busRead_memory {s : State} {addr : Addr} {w : AccessWidth} {r : Region}
    (h : busTarget s.params addr w = .ok r) (hr : r ≠ .registers) :
    busRead s addr w = .ok (memRead s addr.toNat w.bytes) := by
  cases r with
  | registers => exact absurd rfl hr
  | _ => simp only [busRead, h]

/-- A bad read is a bus error. -/
theorem hostRead_of_badAccess {s : State} {addr : Addr} {w : AccessWidth} (h : BadAccess s.params addr w) :
    hostRead addr w s = .next (s.respond .busError) := by
  simp only [hostRead, busRead, busTarget_error_iff.mpr h, respondBusError]

/-- A read that has a target returns data. -/
theorem exists_busRead_of_busTarget_ok {s : State} {addr : Addr} {w : AccessWidth} {r : Region}
    (h : busTarget s.params addr w = .ok r) : ∃ v, busRead s addr w = .ok v := by
  by_cases hr : r = .registers
  · subst hr
    obtain ⟨q, hq⟩ := exists_ofOffset_of_busTarget_registers h
    exact ⟨_, busRead_register h hq⟩
  · exact ⟨_, busRead_memory h hr⟩

/-- Every read but the bad ones completes with data and changes nothing (R78). -/
theorem hostRead_of_not_badAccess {s : State} {addr : Addr} {w : AccessWidth}
    (h : ¬ BadAccess s.params addr w) : ∃ v, hostRead addr w s = .next (s.respond (.readData v)) := by
  obtain ⟨r, hr⟩ := busTarget_ok_of_not_badAccess h
  obtain ⟨v, hv⟩ := exists_busRead_of_busTarget_ok hr
  exact ⟨v, by simp only [hostRead, hv]⟩

/-! ### Commands complete, and leave the host's pending accesses -/

/-- The outcome is a next state with the same pending accesses. -/
def CompletesKeepingQueue (s : State) (o : Host.Outcome State Fault Refusal) : Prop :=
  ∃ t, o = .next t ∧ t.hostQueue = s.hostQueue

/-- A guarded command records an error or has its effect, so it keeps the queue if the effect does. -/
theorem guarded_completesKeepingQueue {checks : List (Bool × CmdError)} {effect : State → State} {s : State}
    (h : (effect s).hostQueue = s.hostQueue) : CompletesKeepingQueue s (guarded checks effect s) := by
  cases hc : firstFailure checks with
  | some e => exact ⟨_, guarded_fail hc, recordError_hostQueue s e⟩
  | none => exact ⟨_, guarded_pass hc, (recordSuccess_hostQueue _).trans h⟩

/-- A command's effect is made of register and memory updates, none of which touches the queue; SAMPLE and SWEEP
also branch on whether they write PHASE (`apply_ite`). -/
theorem exec_completesKeepingQueue (i : Instr) (s : State) : CompletesKeepingQueue s (exec i s) := by
  cases i with
  | sample im nz =>
    simp only [exec, execSample]
    exact guarded_completesKeepingQueue (by simp [apply_ite State.hostQueue])
  | sweep im nz pr =>
    simp only [exec, execSweep]
    exact guarded_completesKeepingQueue (by simp [apply_ite State.hostQueue])
  | _ =>
    simp only [exec, execNop, execSinc, execRcos, execGetsym, execIqpoint, execNoise, execWindow, execFft, execPower,
      execDbscalar, execBinmap, execSpectrum, execHover, execPack32]
    exact guarded_completesKeepingQueue (by simp [spectrumEffect])

theorem runCommand_completesKeepingQueue (w : CmdWord) (s : State) : CompletesKeepingQueue s (runCommand w s) := by
  cases hd : decode w with
  | ok i => simpa only [runCommand_of_decode hd] using exec_completesKeepingQueue i s
  | error e =>
    refine ⟨_, runCommand_of_not_decode (fun i hi => ?_) s, recordError_hostQueue s .illegal⟩
    cases hd.symm.trans hi

/-! ### Writes -/

/-- A bad write is a bus error. -/
theorem hostWrite_of_badAccess {s : State} {addr : Addr} {w : AccessWidth} (h : BadAccess s.params addr w)
    (v : Word) : hostWrite addr w v s = .next (s.respond .busError) := by
  simp only [hostWrite, busTarget_error_iff.mpr h, respondBusError]

@[simp] theorem writeReg_hostQueue (r : RegName) (v : Word) (s : State) :
    (writeReg r v s).hostQueue = s.hostQueue := by
  cases r <;> rfl

/-- A write to CMD completes after the command it runs (R36, R80). -/
theorem hostWrite_command {s : State} {addr : Addr} {w : AccessWidth}
    (h : busTarget s.params addr w = .ok .registers) (hq : RegName.ofOffset addr.toNat = some .cmd) (v : Word) :
    hostWrite addr w v s = completeWith .writeDone (runCommand (v.setWidth 32) s) := by
  simp only [hostWrite, h, hq]

/-- A write to a register other than CMD is a write of that register (R78). -/
theorem hostWrite_register {s : State} {addr : Addr} {w : AccessWidth} {q : RegName}
    (h : busTarget s.params addr w = .ok .registers) (hq : RegName.ofOffset addr.toNat = some q) (hcmd : q ≠ .cmd)
    (v : Word) : hostWrite addr w v s = .next ((writeReg q v s).respond .writeDone) := by
  cases q with
  | cmd => exact absurd rfl hcmd
  | _ => simp only [hostWrite, h, hq]

/-- A write to a memory stores the low bytes of the value (R72). -/
theorem hostWrite_memory {s : State} {addr : Addr} {w : AccessWidth} {r : Region}
    (h : busTarget s.params addr w = .ok r) (hr : r ≠ .registers) (v : Word) :
    hostWrite addr w v s = .next ((memWrite s addr.toNat w.bytes v).respond .writeDone) := by
  cases r with
  | registers => exact absurd rfl hr
  | _ => simp only [hostWrite, h]

/-- Completing the access adds the response to such an outcome. -/
theorem completeWith_keepsQueue {s : State} {o : Host.Outcome State Fault Refusal}
    (h : CompletesKeepingQueue s o) (r : HostResponse) :
    ∃ t, completeWith r o = .next t ∧ t.response = r ∧ t.hostQueue = s.hostQueue := by
  obtain ⟨t, rfl, hqueue⟩ := h
  exact ⟨t.respond r, rfl, rfl, hqueue⟩

/-- Every write but the bad ones completes: a command, a register or a memory written. -/
theorem hostWrite_of_not_badAccess {s : State} {addr : Addr} {w : AccessWidth}
    (h : ¬ BadAccess s.params addr w) (v : Word) :
    ∃ t, hostWrite addr w v s = .next t ∧ t.response = .writeDone ∧ t.hostQueue = s.hostQueue := by
  obtain ⟨r, hr⟩ := busTarget_ok_of_not_badAccess h
  by_cases hreg : r = .registers
  · subst hreg
    obtain ⟨q, hq⟩ := exists_ofOffset_of_busTarget_registers hr
    by_cases hcmd : q = .cmd
    · subst hcmd
      rw [hostWrite_command hr hq]
      exact completeWith_keepsQueue (runCommand_completesKeepingQueue _ s) .writeDone
    · exact ⟨_, hostWrite_register hr hq hcmd v, rfl, writeReg_hostQueue q v s⟩
  · exact ⟨_, hostWrite_memory hr hreg v, rfl, rfl⟩

/-! ### The step of a pending access -/

theorem step_read {s : State} {addr : Addr} {w : AccessWidth} {rest : List HostAccess}
    (h : s.hostQueue = .read addr w :: rest) : step s = hostRead addr w { s with hostQueue := rest } :=
  step_access h

theorem step_write {s : State} {addr : Addr} {w : AccessWidth} {v : Word} {rest : List HostAccess}
    (h : s.hostQueue = .write addr w v :: rest) : step s = hostWrite addr w v { s with hostQueue := rest } :=
  step_access h

end Sys2Proof.Machine

namespace Sys2Proof.Claims

open Sys2Proof Sys2Proof.Machine

/-- Settles O7: the step performs the pending access, whose target exists exactly when the access is not bad. -/
theorem busErrorsAndOnlyThey : Obligations.BusErrorsAndOnlyThey := by
  intro s rest addr w
  refine ⟨fun hbad hq => ?busError, fun hgood hq => ?read, fun hgood v hq => ?write⟩
  case busError =>
    rcases hq with hq | ⟨v, hq⟩
    · exact (step_read hq).trans (hostRead_of_badAccess hbad)
    · exact (step_write hq).trans (hostWrite_of_badAccess (s := { s with hostQueue := rest }) hbad v)
  case read =>
    rw [step_read hq]
    exact hostRead_of_not_badAccess hgood
  case write =>
    rw [step_write hq]
    exact hostWrite_of_not_badAccess (s := { s with hostQueue := rest }) hgood v

end Sys2Proof.Claims
end

section
/-!
PROOFS. The command words that decode, by the numbers of their fields (spec/30_encoding.md R101 to R105).
-/

namespace Sys2Proof

/-! ### The fields of a word as numbers (R101) -/

@[simp] theorem CmdFields.ofWord_opc_toNat (w : CmdWord) : (ofWord w).opc.toNat = w.toNat % 64 := by
  simp [ofWord]

@[simp] theorem CmdFields.ofWord_im_toNat (w : CmdWord) : (ofWord w).im.toNat = w.toNat / 64 % 4 := by
  simp [ofWord, Nat.shiftRight_eq_div_pow]

@[simp] theorem CmdFields.ofWord_im_eq_zero (w : CmdWord) : (ofWord w).im = 0 ↔ w.toNat / 64 % 4 = 0 := by
  simp [← BitVec.toNat_inj]

@[simp] theorem CmdFields.ofWord_im_eq_three (w : CmdWord) : (ofWord w).im = 3 ↔ w.toNat / 64 % 4 = 3 := by
  simp [← BitVec.toNat_inj]

@[simp] theorem CmdFields.ofWord_reserved_toNat (w : CmdWord) : (ofWord w).reserved.toNat = w.toNat / 1024 := by
  have := w.isLt
  simp only [ofWord, BitVec.extractLsb'_toNat, Nat.shiftRight_eq_div_pow]
  omega

/-- Bit `k` of a word as a digit of its number. -/
theorem CmdWord.getLsbD_eq_false_iff (w : CmdWord) (k : Nat) : w.getLsbD k = false ↔ w.toNat / 2 ^ k % 2 = 0 := by
  simp [BitVec.getLsbD, Nat.testBit_eq_decide_div_mod_eq]

@[simp] theorem CmdFields.ofWord_nz_eq_false (w : CmdWord) : (ofWord w).nz = false ↔ w.toNat / 256 % 2 = 0 :=
  CmdWord.getLsbD_eq_false_iff w 8

@[simp] theorem CmdFields.ofWord_pr_eq_false (w : CmdWord) : (ofWord w).pr = false ↔ w.toNat / 512 % 2 = 0 :=
  CmdWord.getLsbD_eq_false_iff w 9

/-! ### The opcodes that accept each option field (R102) -/

theorem accepts_contains_im (opc : BitVec 6) :
    (accepts opc).contains .im = true ↔ opc.toNat ∈ [0x04, 0x05] := by
  unfold accepts; split <;> simp_all

theorem accepts_contains_nz (opc : BitVec 6) :
    (accepts opc).contains .nz = true ↔ opc.toNat ∈ [0x04, 0x05, 0x06, 0x0D] := by
  unfold accepts; split <;> simp_all

theorem accepts_contains_pr (opc : BitVec 6) :
    (accepts opc).contains .pr = true ↔ opc.toNat = 0x05 := by
  unfold accepts; split <;> simp_all

/-! ### The four checks of R103 on a word's numbers -/

theorem CmdFields.reservedClear_ofWord (w : CmdWord) :
    (ofWord w).reservedClear = true ↔ w.toNat / 1024 = 0 := by
  simp [reservedClear, ← BitVec.toNat_inj]

theorem CmdFields.opcodeDefined_ofWord (w : CmdWord) :
    (ofWord w).opcodeDefined = true ↔ w.toNat % 64 ≤ 0x0F := by
  simp [opcodeDefined]

theorem CmdFields.optionsAccepted_ofWord (w : CmdWord) :
    (ofWord w).optionsAccepted = true ↔
      (w.toNat % 64 ∉ [0x04, 0x05] → w.toNat / 64 % 4 = 0)
        ∧ (w.toNat % 64 ∉ [0x04, 0x05, 0x06, 0x0D] → w.toNat / 256 % 2 = 0)
        ∧ (w.toNat % 64 ≠ 0x05 → w.toNat / 512 % 2 = 0) := by
  simp only [optionsAccepted, Bool.and_eq_true, Bool.or_eq_true, accepts_contains_im, accepts_contains_nz,
    accepts_contains_pr, ofWord_opc_toNat, beq_iff_eq, Bool.not_eq_true', ofWord_nz_eq_false, ofWord_pr_eq_false,
    ofWord_im_eq_zero, or_iff_not_imp_left, and_assoc, ne_eq]

theorem CmdFields.indexModeDefined_ofWord (w : CmdWord) :
    (ofWord w).indexModeDefined = true ↔ (w.toNat % 64 ∈ [0x04, 0x05] → w.toNat / 64 % 4 ≠ 3) := by
  simp only [indexModeDefined, Bool.or_eq_true, Bool.not_eq_true', ← Bool.not_eq_true, accepts_contains_im,
    ofWord_opc_toNat, bne_iff_ne, ne_eq, ofWord_im_eq_three, ← imp_iff_not_or]

/-- The four checks that make fields legal (R103). -/
theorem CmdFields.legal_iff {f : CmdFields} :
    f.legal = true ↔ f.reservedClear = true ∧ f.opcodeDefined = true ∧ f.optionsAccepted = true
      ∧ f.indexModeDefined = true := by
  simp only [legal, Bool.and_eq_true, and_assoc]

/-- The fields of a word are legal exactly by the four conditions of R103 on its numbers. -/
theorem CmdFields.legal_ofWord (w : CmdWord) :
    (ofWord w).legal = true ↔
      w.toNat % 64 ≤ 0x0F ∧ w.toNat / 1024 = 0
        ∧ (w.toNat % 64 ∉ [0x04, 0x05] → w.toNat / 64 % 4 = 0)
        ∧ (w.toNat % 64 ∉ [0x04, 0x05, 0x06, 0x0D] → w.toNat / 256 % 2 = 0)
        ∧ (w.toNat % 64 ≠ 0x05 → w.toNat / 512 % 2 = 0)
        ∧ (w.toNat % 64 ∈ [0x04, 0x05] → w.toNat / 64 % 4 ≠ 3) := by
  rw [legal_iff, reservedClear_ofWord, opcodeDefined_ofWord, optionsAccepted_ofWord, indexModeDefined_ofWord]
  simp only [and_assoc, and_left_comm]

/-! ### Decoding accepts exactly the legal fields (R105) -/

/-- Every value of IM but the reserved 3 is a mode (R101). -/
theorem IndexMode.exists_ofField {im : BitVec 2} (h : im ≠ 3) : ∃ m, IndexMode.ofField im = some m := by
  have hall : ∀ b : BitVec 2, b ≠ 3 → (IndexMode.ofField b).isSome = true := by decide
  exact Option.isSome_iff_exists.mp (hall im h)

/-- Fields with a defined opcode and a mode in IM are those of an instruction (R102). -/
theorem exists_instrOfFields {f : CmdFields} (hopc : f.opcodeDefined = true) (him : f.im ≠ 3) :
    ∃ i, instrOfFields f = .ok i := by
  obtain ⟨m, hm⟩ := IndexMode.exists_ofField him
  have hle : f.opc.toNat ≤ 0x0F := by simpa [CmdFields.opcodeDefined] using hopc
  unfold instrOfFields
  interval_cases f.opc.toNat <;> simp [hm]

/-- The reserved value of IM is legal for no opcode: an opcode that does not accept IM wants it 0 (R103). -/
theorem CmdFields.im_ne_three {f : CmdFields} (hopt : f.optionsAccepted = true) (hmode : f.indexModeDefined = true) :
    f.im ≠ 3 := by
  cases hacc : (accepts f.opc).contains .im with
  | true => simpa only [indexModeDefined, hacc, Bool.not_true, Bool.false_or, bne_iff_ne] using hmode
  | false =>
    have hzero : f.im = 0 := by
      simp only [optionsAccepted, hacc, Bool.false_or, Bool.and_eq_true, beq_iff_eq] at hopt
      obtain ⟨⟨him, -⟩, -⟩ := hopt
      exact him
    simp [hzero]

/-- A word whose fields are legal decodes to an instruction. -/
theorem exists_decode_of_legal {w : CmdWord} (h : (CmdFields.ofWord w).legal = true) : ∃ i, decode w = .ok i := by
  obtain ⟨hres, hopc, hopt, hmode⟩ := CmdFields.legal_iff.mp h
  obtain ⟨i, hi⟩ := exists_instrOfFields hopc (CmdFields.im_ne_three hopt hmode)
  exact ⟨i, by simp [decode, hres, hopc, hopt, hmode, hi]⟩

/-- A word that decodes passed each of the four checks. -/
theorem legal_of_decode {w : CmdWord} {i : Instr} (h : decode w = .ok i) : (CmdFields.ofWord w).legal = true := by
  simp only [decode] at h
  split_ifs at h with hres hopc hopt hmode
  simp only [Bool.not_eq_true', Bool.not_eq_false] at hres hopc hopt hmode
  exact CmdFields.legal_iff.mpr ⟨hres, hopc, hopt, hmode⟩

end Sys2Proof

namespace Sys2Proof.Claims

open Sys2Proof Sys2Proof.Machine

/-- Settles O2: the four conditions on the word's numbers are the decoder's four checks on its fields. -/
theorem decodeAcceptsExactlyLegalWords : Obligations.DecodeAcceptsExactlyLegalWords := by
  intro w opc im nz pr legal
  have hlegal : (CmdFields.ofWord w).legal = true ↔ legal := CmdFields.legal_ofWord w
  refine ⟨fun h => exists_decode_of_legal (hlegal.mpr h), fun h s => ?_⟩
  have hnone : ∀ i, decode w ≠ .ok i := fun i hi => h (hlegal.mp (legal_of_decode hi))
  exact runCommand_of_not_decode hnone s

end Sys2Proof.Claims
end

section
/-!
PROOFS. The bits of a symbol and the count of symbols (spec/40_symbol_codec.md R130 to R132).
-/

namespace Sys2Proof.Machine

/-! ### A bit of the message (R130) -/

/-- Bit `k` of the message as a truth value; `bitAt_eq_toNat` ties it to `bitAt`. -/
def messageBit (s : State) (k : Nat) : Bool :=
  decide (k / 8 < s.msgLen.toNat) && (msgByte s (k / 8)).getLsbD (7 - k % 8)

theorem bitAt_eq_toNat (s : State) (k : Nat) : bitAt s k = (messageBit s k).toNat := by
  by_cases hin : k / 8 < s.msgLen.toNat
  · simp only [bitAt, messageBit, hin, if_true, decide_true, Bool.true_and, BitVec.getLsbD,
      Nat.toNat_testBit, Nat.shiftRight_eq_div_pow]
  · simp [bitAt, messageBit, hin]

/-! ### A run of bits, first bit most significant (R131) -/

/-- The number whose binary digits are the `n` message bits from bit `start` on: the fold of `symbolAt`. -/
def bitsFrom (s : State) (start n : Nat) : Nat :=
  (List.range n).foldl (fun v q => 2 * v + bitAt s (start + q)) 0

@[simp] theorem bitsFrom_zero (s : State) (start : Nat) : bitsFrom s start 0 = 0 := rfl

/-- One more bit becomes the new lowest digit. -/
theorem bitsFrom_succ (s : State) (start n : Nat) :
    bitsFrom s start (n + 1) = Nat.bit (messageBit s (start + n)) (bitsFrom s start n) := by
  simp only [bitsFrom, List.range_succ, List.foldl_append, List.foldl_cons, List.foldl_nil, bitAt_eq_toNat,
    Nat.bit_val]

theorem bitsFrom_lt (s : State) (start n : Nat) : bitsFrom s start n < 2 ^ n := by
  induction n with
  | zero => simp
  | succ n ih =>
    have hbit := Bool.toNat_lt (messageBit s (start + n))
    rw [bitsFrom_succ, Nat.bit_val, Nat.pow_succ]
    omega

/-- The bit taken `q`-th of `n` has `n - 1 - q` digits below it. -/
theorem testBit_bitsFrom (s : State) (start : Nat) {n q : Nat} (hq : q < n) :
    (bitsFrom s start n).testBit (n - 1 - q) = messageBit s (start + q) := by
  induction n with
  | zero => exact absurd hq (Nat.not_lt_zero q)
  | succ n ih =>
    rw [bitsFrom_succ]
    rcases Nat.lt_succ_iff_lt_or_eq.mp hq with hlt | rfl
    · have hpos : n + 1 - 1 - q = (n - 1 - q) + 1 := by omega
      rw [hpos, Nat.testBit_bit_succ, ih hlt]
    · rw [Nat.add_sub_cancel, Nat.sub_self, Nat.testBit_bit_zero]

/-! ### A symbol (R131) -/

theorem symbolAt_of_past_end {s : State} {j b : Nat} (h : s.msgLen.toNat ≤ j * b / 8) : symbolAt s j b = 0 :=
  if_pos h

theorem symbolAt_of_inside {s : State} {j b : Nat} (h : j * b / 8 < s.msgLen.toNat) :
    symbolAt s j b = bitsFrom s (j * b) b :=
  if_neg (Nat.not_le.mpr h)

theorem symbolAt_lt (s : State) (j b : Nat) : symbolAt s j b < 2 ^ b := by
  rcases Nat.lt_or_ge (j * b / 8) s.msgLen.toNat with hin | hpast
  · rw [symbolAt_of_inside hin]
    exact bitsFrom_lt s (j * b) b
  · rw [symbolAt_of_past_end hpast]
    exact Nat.two_pow_pos b

/-! ### The symbol count (R132) -/

/-- The count is `8 * L / b` rounded up, so an index is below it exactly when its symbol starts inside the message. -/
theorem lt_symbolCount_iff {s : State} (hb : 1 ≤ bitsPerSymbol s) (j : Nat) :
    j < symbolCount s ↔ j * bitsPerSymbol s / 8 < s.msgLen.toNat := by
  calc j < symbolCount s
      ↔ (j + 1) * bitsPerSymbol s ≤ 8 * s.msgLen.toNat + bitsPerSymbol s - 1 := Nat.le_div_iff_mul_le hb
    _ ↔ j * bitsPerSymbol s < 8 * s.msgLen.toNat := by rw [Nat.succ_mul]; omega
    _ ↔ j * bitsPerSymbol s / 8 < s.msgLen.toNat := by omega

/-- No symbol starts inside exactly the empty message: symbol 0 starts at its first bit. -/
theorem symbolCount_eq_zero_iff {s : State} (hb : 1 ≤ bitsPerSymbol s) :
    symbolCount s = 0 ↔ s.msgLen.toNat = 0 := by
  have hfirst : 0 < symbolCount s ↔ 0 < s.msgLen.toNat := by simpa using lt_symbolCount_iff hb 0
  omega

end Sys2Proof.Machine

namespace Sys2Proof.Claims

open Sys2Proof Sys2Proof.Machine

/-- Settles O33: inside the message a symbol is a run of `b` bits, whose digits are read by induction on the run. -/
theorem symbolBits : Obligations.SymbolBits := by
  intro s j b
  refine ⟨symbolAt_of_past_end, fun hin q hq => ?_, symbolAt_lt s j b⟩
  rw [symbolAt_of_inside hin]
  exact testBit_bitsFrom s (j * b) hq

/-- Settles O34: the rounded-up quotient bounds exactly the indices whose first bit is in the message. -/
theorem symbolCountCountsSymbols : Obligations.SymbolCountCountsSymbols :=
  fun _ hb => ⟨rfl, lt_symbolCount_iff hb, symbolCount_eq_zero_iff hb⟩

end Sys2Proof.Claims
end

section
/-!
PROOFS. The sinc primitive and the raised cosine by their branches, and SINC and RCOS (spec/41_pulse_shaper.md
R140 to R143).
-/

namespace Sys2Proof.Machine

/-! ### The sinc primitive (R140) -/

theorem sincf_of_near_zero {x : F64} (h : flt (fabs x) EPS9 = true) : sincf x = fOne := if_pos h

theorem sincf_of_not_near_zero {x : F64} (h : ¬ flt (fabs x) EPS9 = true) :
    sincf x = fdiv (Config.sin (fmul PI x)) (fmul PI x) := if_neg h

/-! ### The branches of the raised cosine (R142) -/

section
variable {t ts beta : F64}

/-- Branch Z: the offset is beyond the four symbol periods the pulse reaches. -/
theorem rcos_of_beyond (hz : flt (fmul fFour ts) (fabs t) = true) : rcos t ts beta = fZero := if_pos hz

/-- Branch C: the offset is at the centre of the pulse. -/
theorem rcos_of_centre (hz : ¬ flt (fmul fFour ts) (fabs t) = true) (hc : flt (fabs t) EPS9 = true) :
    rcos t ts beta = fOne := (if_neg hz).trans (if_pos hc)

/-- Branch S: the divisor of the general form is close to 0. -/
theorem rcos_of_singular (hz : ¬ flt (fmul fFour ts) (fabs t) = true) (hc : ¬ flt (fabs t) EPS9 = true)
    (hs : (flt EPS9 beta && flt (fabs (fsub (fabs (fmul (fmul fTwo beta) (fdiv t ts))) fOne)) EPS9) = true) :
    rcos t ts beta = fmul PI_4 (sincf (fdiv fOne (fmul fTwo beta))) :=
  (if_neg hz).trans ((if_neg hc).trans (if_pos hs))

/-- Branch G: every other offset. -/
theorem rcos_of_general (hz : ¬ flt (fmul fFour ts) (fabs t) = true) (hc : ¬ flt (fabs t) EPS9 = true)
    (hs : ¬ (flt EPS9 beta && flt (fabs (fsub (fabs (fmul (fmul fTwo beta) (fdiv t ts))) fOne)) EPS9) = true) :
    rcos t ts beta =
      fmul (sincf (fdiv t ts)) (fdiv (Config.cos (fmul (fmul PI beta) (fdiv t ts)))
        (fsub fOne (fmul (fmul (fmul fTwo beta) (fdiv t ts)) (fmul (fmul fTwo beta) (fdiv t ts))))) :=
  (if_neg hz).trans ((if_neg hc).trans (if_neg hs))

end

/-! ### The two commands (R141, R143) -/

/-- A command without checks has its effect in every state. -/
theorem guarded_nil (effect : State → State) (s : State) : guarded [] effect s = .next (effect s).recordSuccess :=
  guarded_pass firstFailure_nil

/-- SINC stores the value of the sinc primitive, whatever form that value is known in. -/
theorem exec_sinc_of_sincf_eq {s : State} {v : F64} (h : sincf s.arg0 = v) :
    exec .sinc s = .next { s with res0 := v, err := false, ecode := 0 } := by
  subst h
  exact guarded_nil (fun s => s.setRes0 (sincf s.arg0)) s

/-- RCOS stores the value of the raised cosine, whatever form that value is known in. -/
theorem exec_rcos_of_rcos_eq {s : State} {v : F64} (h : rcos s.arg0 s.arg1 s.arg2 = v) :
    exec .rcos s = .next { s with res0 := v, err := false, ecode := 0 } := by
  subst h
  exact guarded_nil (fun s => s.setRes0 (rcos s.arg0 s.arg1 s.arg2)) s

end Sys2Proof.Machine

namespace Sys2Proof.Claims

open Sys2Proof Sys2Proof.Machine

/-- Settles O30: SINC has no check, and its value is that of the branch of the sinc primitive. -/
theorem sincResult : Obligations.SincResult := by
  intro s
  split_ifs with hnear
  · exact exec_sinc_of_sincf_eq (sincf_of_near_zero hnear)
  · exact exec_sinc_of_sincf_eq (sincf_of_not_near_zero hnear)

/-- Settles O31: RCOS has no check, and its value is that of the first branch whose test holds. -/
theorem rcosResult : Obligations.RcosResult := by
  intro s t ts beta x u
  split_ifs with hz hc hs
  · exact exec_rcos_of_rcos_eq (rcos_of_beyond hz)
  · exact exec_rcos_of_rcos_eq (rcos_of_centre hz hc)
  · exact exec_rcos_of_rcos_eq (rcos_of_singular hz hc hs)
  · exact exec_rcos_of_rcos_eq (rcos_of_general hz hc hs)

end Sys2Proof.Claims
end

section
/-!
PROOFS. The sample function and its three kernels (spec/42_synthesizer.md R161 to R167), and IQPOINT with the noise
of a constellation point (R172, R173, spec/43_noise.md R205).
-/

namespace Sys2Proof.Machine

open Sys2Proof.Claims

/-! ### The pulse-shaped sum (R162) -/

/-- The nine indices, written out. -/
theorem nearbyIndices_eq (kc : Int) :
    nearbyIndices kc = [kc - 4, kc - 3, kc - 2, kc - 1, kc, kc + 1, kc + 2, kc + 3, kc + 4] := by
  simp only [nearbyIndices, HALF_WIDTH, List.range_succ, List.range_zero, List.map_cons, List.map_nil,
    List.nil_append, List.cons_append, List.cons.injEq, and_true]
  omega

/-- A sum over the pulse terms is a sum over the nine indices that passes over each skipped one. -/
theorem foldl_pulseTerms {α : Type} (s : State) (t : F64) (im : IndexMode) (add : α → Nat × F64 → α) (init : α) :
    (pulseTerms s t im).foldl add init = (nearbyIndices (symIndex s t)).foldl
      (fun acc k => match resolve s k im with
        | none => acc
        | some j => add acc (symbolAt s j (bitsPerSymbol s), rcos (fsub t (centre s k)) s.symbolPeriod s.rollOff))
      init := by
  rw [pulseTerms, List.foldl_filterMap]
  refine List.foldl_ext _ _ _ fun acc k _ => ?_
  cases resolve s k im with
  | none => rfl
  | some j => rfl

/-! ### The kernels (R163 to R166) -/

/-- With at least one bit per symbol the alphabet has more than one symbol (R163). -/
theorem askWeight_of_one_le {s : State} (hb : 1 ≤ bitsPerSymbol s) (sym : Nat) :
    askWeight s sym = fdiv (ofNat sym) (ofNat (alphabetSize s - 1)) :=
  if_neg (Nat.one_lt_two_pow (Nat.one_le_iff_ne_zero.mp hb)).ne'

/-- The ASK sum: every symbol's weight times its pulse weight (R164). -/
def askEnvelope (s : State) (t : F64) (im : IndexMode) : F64 :=
  (pulseTerms s t im).foldl (fun env sw => fadd env (fmul (askWeight s sw.1) sw.2)) fZero

theorem askSample_eq (s : State) (t : F64) (im : IndexMode) :
    askSample s t im =
      fmul (fmul s.amplitude (askEnvelope s t im)) (Config.sin (fmul (fmul TWO_PI s.carrierFreq) t)) := rfl

theorem askEnvelope_of_one_le {s : State} (hb : 1 ≤ bitsPerSymbol s) (t : F64) (im : IndexMode) :
    askEnvelope s t im = (pulseTerms s t im).foldl
      (fun env sw => fadd env (fmul (fdiv (ofNat sw.1) (ofNat (alphabetSize s - 1))) sw.2)) fZero := by
  simp only [askEnvelope, askWeight_of_one_le hb]

/-- One channel of the PSK sum: every pulse weight times the channel's coordinate of its point (R165). -/
def pskChannel (s : State) (t : F64) (im : IndexMode) (coord : F64 → F64) : F64 :=
  (pulseTerms s t im).foldl (fun acc sw => fadd acc (fmul sw.2 (coord (pskAngle s sw.1)))) fZero

/-- The two channels of the PSK sum do not depend on each other. -/
theorem pskSample_eq (s : State) (t : F64) (im : IndexMode) :
    pskSample s t im = fmul s.amplitude
      (fsub (fmul (pskChannel s t im Config.cos) (Config.cos (fmul (fmul TWO_PI s.carrierFreq) t)))
        (fmul (pskChannel s t im Config.sin) (Config.sin (fmul (fmul TWO_PI s.carrierFreq) t)))) := by
  simp only [pskSample, pskChannel]
  rw [List.foldl_hom₂ (pulseTerms s t im) Prod.mk
    (fun acc sw => fadd acc (fmul sw.2 (Config.cos (pskAngle s sw.1))))
    (fun acc sw => fadd acc (fmul sw.2 (Config.sin (pskAngle s sw.1)))) _ fZero fZero fun _ _ _ => rfl]

/-- The phase advances by one increment of the frequency of the current symbol, which counts as 0 where it is
skipped (R166). -/
theorem fskPhase_eq (s : State) (t : F64) (im : IndexMode) (ph : F64) :
    fskPhase s t im ph =
      let sym := match resolve s (symIndex s t) im with
        | none => ofNat 0
        | some j => ofNat (symbolAt s j (bitsPerSymbol s))
      fadd ph (fdiv (fmul TWO_PI (fadd s.carrierFreq (fmul sym (fdiv s.carrierFreq fTwo)))) s.samplingRate) := by
  unfold fskPhase
  cases resolve s (symIndex s t) im with
  | none => rfl
  | some j => rfl

/-! ### The sample function by its cases (R167) -/

theorem silent_iff {s : State} {im : IndexMode} : silent s im = true ↔ im = .wrap ∧ symbolCount s = 0 := by
  simp only [silent, Bool.and_eq_true, beq_iff_eq]

section
variable {s : State} {im : IndexMode}

theorem synth_of_silent (h : im = .wrap ∧ symbolCount s = 0) (t ph : F64) : synth s t im ph = (fZero, ph) :=
  if_pos (silent_iff.mpr h)

theorem synth_of_ask (h : ¬ (im = .wrap ∧ symbolCount s = 0)) (hmod : modKind s = .ask) (t ph : F64) :
    synth s t im ph = (askSample s t im, ph) := by
  rw [synth, if_neg (mt silent_iff.mp h), hmod]

theorem synth_of_psk (h : ¬ (im = .wrap ∧ symbolCount s = 0)) (hmod : modKind s = .psk) (t ph : F64) :
    synth s t im ph = (pskSample s t im, ph) := by
  rw [synth, if_neg (mt silent_iff.mp h), hmod]

theorem synth_of_fsk (h : ¬ (im = .wrap ∧ symbolCount s = 0)) (hmod : modKind s = .fsk) (t ph : F64) :
    synth s t im ph = (fmul s.amplitude (Config.sin (fskPhase s t im ph)), fskPhase s t im ph) := by
  rw [synth, if_neg (mt silent_iff.mp h), hmod]
  rfl

end

/-! ### The noise of a constellation point (R200 to R205) -/

theorem gauss_eq_gaussAt (s : State) (pos : Nat) : gauss s pos = gaussAt s pos := rfl

theorem iqNoiseSd_eq (s : State) : iqNoiseSd s = fsqrt (fdiv fHalf (linearSnr s)) := rfl

/-- Noise on: I takes the first two draws and Q the next two. -/
theorem addIqNoise_of_on {s : State} (h : noiseOn s = true) (p : F64 × F64) (pos : Nat) :
    addIqNoise s p pos =
      ((fadd p.1 (fmul (gaussAt s pos) (fsqrt (fdiv fHalf (linearSnr s)))),
        fadd p.2 (fmul (gaussAt s (pos + 2)) (fsqrt (fdiv fHalf (linearSnr s))))), pos + 4) := by
  rw [addIqNoise, if_pos h, gauss_eq_gaussAt, gauss_eq_gaussAt, iqNoiseSd_eq]

/-- Noise off: the point keeps its bits and no draw is taken. -/
theorem addIqNoise_of_off {s : State} (h : ¬ noiseOn s = true) (p : F64 × F64) (pos : Nat) :
    addIqNoise s p pos = (p, pos) := if_neg h

/-! ### IQPOINT (R173) -/

/-- The point IQPOINT answers and the draw position after it. -/
def iqOutput (s : State) (nz : Bool) : (F64 × F64) × Nat :=
  let p := iqPoint s (symbolAt s s.argi.toNat (bitsPerSymbol s))
  if nz then addIqNoise s p s.drawPos else (p, s.drawPos)

/-- The checks of IQPOINT, in the order of R284. -/
def iqChecks (s : State) (nz : Bool) : List (Bool × CmdError) :=
  [(vMod s, .config), (!nz || snrOk s, .config), (modKind s == .psk, .unsupported)]

theorem exec_iqpoint (nz : Bool) (s : State) :
    exec (.iqpoint nz) s = guarded (iqChecks s nz)
      (fun s => ((s.setRes0 (iqOutput s nz).1.1).setRes1 (iqOutput s nz).1.2).setDrawPos (iqOutput s nz).2) s := rfl

theorem iqOutput_of_noisy {s : State} {nz : Bool} (h : nz = true ∧ noiseOn s = true) :
    iqOutput s nz = addIqNoise s (iqPoint s (symbolAt s s.argi.toNat (bitsPerSymbol s))) s.drawPos := if_pos h.1

theorem iqOutput_of_not_noisy {s : State} {nz : Bool} (h : ¬ (nz = true ∧ noiseOn s = true)) :
    iqOutput s nz = (iqPoint s (symbolAt s s.argi.toNat (bitsPerSymbol s)), s.drawPos) := by
  cases nz with
  | false => rfl
  | true => exact addIqNoise_of_off (fun hon => h ⟨rfl, hon⟩) _ _

section
variable {s : State} {nz : Bool}

/-- The second CONFIG check is an implication: SNR_DB matters only where noise is asked for. -/
theorem nz_check_iff : (!nz || snrOk s) = true ↔ (nz = true → snrOk s = true) := by
  cases nz <;> simp

theorem firstFailure_iqChecks_config (h : vMod s = false ∨ (nz = true ∧ snrOk s = false)) :
    firstFailure (iqChecks s nz) = some .config := by
  rcases h with hmod | ⟨rfl, hsnr⟩
  · simp [iqChecks, hmod]
  · simp [iqChecks, hsnr]

theorem firstFailure_iqChecks_unsupported (hmod : vMod s = true) (hsnr : nz = true → snrOk s = true)
    (hpsk : modKind s ≠ .psk) : firstFailure (iqChecks s nz) = some .unsupported := by
  simp [iqChecks, hmod, nz_check_iff.mpr hsnr, hpsk]

theorem firstFailure_iqChecks_none (hmod : vMod s = true) (hsnr : nz = true → snrOk s = true)
    (hpsk : modKind s = .psk) : firstFailure (iqChecks s nz) = none := by
  simp [iqChecks, hmod, nz_check_iff.mpr hsnr, hpsk]

/-- A legal IQPOINT stores its output, whatever form that output is known in. -/
theorem exec_iqpoint_of_iqOutput_eq {i q : F64} {pos : Nat} (hmod : vMod s = true)
    (hsnr : nz = true → snrOk s = true) (hpsk : modKind s = .psk) (hout : iqOutput s nz = ((i, q), pos)) :
    exec (.iqpoint nz) s = .next { s with res0 := i, res1 := q, drawPos := pos, err := false, ecode := 0 } := by
  rw [exec_iqpoint, guarded_pass (firstFailure_iqChecks_none hmod hsnr hpsk), hout]
  rfl

end

end Sys2Proof.Machine

namespace Sys2Proof.Claims

open Sys2Proof Sys2Proof.Machine

/-- Settles O42: each kernel's sum over the pulse terms is the sum over the nine indices, and the cases are those of
the sample function. -/
theorem synthesizerKernels : Obligations.SynthesizerKernels := by
  intro s t ph im hb silence m kc near sym w angle carrier
  have hnear : nearbyIndices (symIndex s t) = near := nearbyIndices_eq kc
  refine ⟨fun hs => synth_of_silent hs t ph, fun hs hmod => ?ask, fun hs hmod => ?psk, fun hs hmod => ?fsk⟩
  case ask =>
    intro env
    have henv : askEnvelope s t im = env := by
      rw [askEnvelope_of_one_le hb, foldl_pulseTerms, hnear]
      rfl
    rw [synth_of_ask hs hmod, askSample_eq, henv]
  case psk =>
    intro i q
    have hi : pskChannel s t im Config.cos = i := by
      rw [pskChannel, foldl_pulseTerms, hnear]
      rfl
    have hq : pskChannel s t im Config.sin = q := by
      rw [pskChannel, foldl_pulseTerms, hnear]
      rfl
    rw [synth_of_psk hs hmod, pskSample_eq, hi, hq]
  case fsk =>
    intro f ph'
    have hph : fskPhase s t im ph = ph' := fskPhase_eq s t im ph
    rw [synth_of_fsk hs hmod, hph]

/-- Settles O43: the outcome is that of IQPOINT's checks, and the point's noise that of the noise setting. -/
theorem iqpointResult : Obligations.IqpointResult := by
  intro s nz m sym a0 a noisy sdc
  refine ⟨fun hmod hsnr hpsk => ⟨fun hn => ?_, fun hn => ?_⟩, fun hmod hsnr hpsk => ?_, fun hconfig => ?_⟩
  · exact exec_iqpoint_of_iqOutput_eq hmod hsnr hpsk ((iqOutput_of_noisy hn).trans (addIqNoise_of_on hn.2 _ _))
  · exact exec_iqpoint_of_iqOutput_eq hmod hsnr hpsk (iqOutput_of_not_noisy hn)
  · exact (exec_iqpoint nz s).trans (guarded_fail (firstFailure_iqChecks_unsupported hmod hsnr hpsk))
  · exact (exec_iqpoint nz s).trans (guarded_fail (firstFailure_iqChecks_config hconfig))

end Sys2Proof.Claims
end

section
/-!
PROOFS. The checks of every command, CONFIG first, and the error a failed one records (spec/44_spectral.md R220,
R239, spec/60_exceptions.md R282, R284); and DBSCALAR.
-/

namespace Sys2Proof.Machine

open Sys2Proof.Claims

/-! ### CONFIG checks come first -/

/-- Checks that raise CONFIG, and the checks after them: the order of R284. -/
def configThen (configs : List Bool) (rest : List (Bool × CmdError)) : List (Bool × CmdError) :=
  configs.map (fun b => (b, .config)) ++ rest

theorem firstFailure_configThen_of_false {configs : List Bool} (h : false ∈ configs)
    (rest : List (Bool × CmdError)) : firstFailure (configThen configs rest) = some .config := by
  induction configs with
  | nil => cases h
  | cons b configs ih =>
    cases b with
    | false => rfl
    | true => exact ih (by simpa using h)

theorem firstFailure_configThen_of_true {configs : List Bool} (h : ∀ b ∈ configs, b = true)
    (rest : List (Bool × CmdError)) : firstFailure (configThen configs rest) = firstFailure rest := by
  induction configs with
  | nil => rfl
  | cons b configs ih =>
    obtain ⟨rfl, hconfigs⟩ := List.forall_mem_cons.mp h
    exact ih hconfigs

/-! ### What each check says -/

/-- The test `N & (N - 1) = 0` of R220 accepts exactly the powers of two. -/
theorem vFftPow2_iff {s : State} : vFftPow2 s = true ↔ PowerOfTwoSize s.fftSize.toNat := by
  have hshape : vFftPow2 s = true ↔
      fftLength s ≠ 0 ∧ fftLength s &&& (fftLength s - 1) = 0 ∧ fftLength s ≠ 1 := by
    simp [vFftPow2, and_assoc]
  rw [hshape]
  constructor
  · rintro ⟨h0, hand, h1⟩
    obtain ⟨m, hm⟩ := (Nat.and_sub_one_eq_zero_iff_isPowerOfTwo h0).mp hand
    have hm0 : m ≠ 0 := by
      rintro rfl
      exact h1 hm
    exact ⟨m, Nat.one_le_iff_ne_zero.mpr hm0, hm⟩
  · rintro ⟨m, hm1, hm : fftLength s = 2 ^ m⟩
    have h2 : 2 ≤ fftLength s := hm ▸ Nat.le_self_pow (Nat.one_le_iff_ne_zero.mp hm1) 2
    have h0 : fftLength s ≠ 0 := by omega
    exact ⟨h0, (Nat.and_sub_one_eq_zero_iff_isPowerOfTwo h0).mpr ⟨m, hm⟩, by omega⟩

theorem vFftPow2_eq_false_iff {s : State} : vFftPow2 s = false ↔ ¬ PowerOfTwoSize s.fftSize.toNat := by
  rw [← vFftPow2_iff, Bool.not_eq_true]

theorem vFftCap_iff {s : State} : vFftCap s = true ↔ s.fftSize.toNat ≤ s.params.nMax := decide_eq_true_iff

theorem vFftCap_eq_false_iff {s : State} : vFftCap s = false ↔ s.params.nMax < s.fftSize.toNat := by
  rw [← not_le, ← vFftCap_iff, Bool.not_eq_true]

theorem vCount_eq_false_iff {s : State} : vCount s = false ↔ s.params.nMax < s.count.toNat := by
  rw [vCount, decide_eq_false_iff_not, not_le]

theorem vWin_iff {s : State} : vWin s = true ↔ winKind s ≠ .reserved := by simp [vWin]

theorem vWin_eq_false_iff {s : State} : vWin s = false ↔ winKind s = .reserved := by simp [vWin]

/-- SNR_DB and AMPLITUDE matter only where noise is asked for. -/
theorem vNoise_check_iff {s : State} {nz : Bool} : (!nz || vNoise s) = true ↔ (nz = true → vNoise s = true) := by
  cases nz <;> simp

/-- A sample time of SPECTRUM is out of range exactly where there is a message to take a symbol of (R239). -/
theorem spectrumTimes_out_of_range_iff {s : State} :
    timesInRange s .wrap (spectrumTimes s) = false ↔
      symbolCount s ≠ 0 ∧
        ∃ i < s.fftSize.toNat, symIndexOk s (fadd s.timeOffset (fdiv (ofNat i) s.samplingRate)) = false := by
  simp [timesInRange, silent, spectrumTimes, sampleTimes, fftLength]

/-! ### Every command as its checks and its effect -/

/-- The settings a command reads that must be legal, in the order in which it checks them. -/
def configChecks (s : State) : Instr → List Bool
  | .nop | .sinc | .rcos | .pack32 => []
  | .getsym => [vBps s]
  | .sample _ nz | .sweep _ nz _ => [vSyn s, !nz || vNoise s]
  | .iqpoint nz => [vMod s, !nz || snrOk s]
  | .noise => [vNoise s]
  | .window => [vFftPow2 s, vWin s]
  | .fft => [vFftPow2 s]
  | .power | .dbscalar => [vFftPow2 s, vPow s]
  | .binmap => [vFftPow2 s, vMap s]
  | .spectrum nz => [vFftPow2 s, vSyn s, vWin s, vPow s, vMap s, isFinite s.timeOffset, !nz || vNoise s]
  | .hover => [!isNaN s.arg0]

/-- The checks a command makes once its settings are legal. -/
def laterChecks (s : State) : Instr → List (Bool × CmdError)
  | .nop | .sinc | .rcos | .getsym | .noise => []
  | .sample im _ => [(timesInRange s im [s.arg0], .range)]
  | .sweep im _ _ =>
    [(vCount s, .alloc), (timesInRange s im (sampleTimes s s.arg0 s.count.toNat), .range)]
  | .iqpoint _ => [(modKind s == .psk, .unsupported)]
  | .window | .fft | .power | .dbscalar | .binmap => [(vFftCap s, .alloc)]
  | .spectrum _ => [(vFftCap s, .alloc), (timesInRange s .wrap (spectrumTimes s), .range)]
  | .hover => [(s.specValid, .nospec)]
  | .pack32 => [(vCount s, .alloc)]

theorem exec_eq_guarded (i : Instr) (s : State) :
    ∃ effect, exec i s = guarded (configThen (configChecks s i) (laterChecks s i)) effect s := by
  cases i <;>
    simp only [exec, execNop, execSinc, execRcos, execGetsym, execSample, execSweep, execIqpoint, execNoise,
      execWindow, execFft, execPower, execDbscalar, execBinmap, execSpectrum, execHover, execPack32] <;>
    exact ⟨_, rfl⟩

/-- A command with an illegal setting records CONFIG, whatever its later checks say. -/
theorem exec_of_illegal_setting {i : Instr} {s : State} (h : false ∈ configChecks s i) :
    exec i s = .next { s with err := true, ecode := 2 } := by
  obtain ⟨effect, heq⟩ := exec_eq_guarded i s
  exact heq.trans (guarded_fail (firstFailure_configThen_of_false h _))

/-- A command whose settings are legal records the error of the first later check that fails. -/
theorem exec_of_later_failure {i : Instr} {s : State} {e : CmdError} (h : ∀ b ∈ configChecks s i, b = true)
    (he : firstFailure (laterChecks s i) = some e) :
    exec i s = .next { s with err := true, ecode := e.code } := by
  obtain ⟨effect, heq⟩ := exec_eq_guarded i s
  exact heq.trans (guarded_fail ((firstFailure_configThen_of_true h _).trans he))

/-- A command whose checks all hold has its effect and records success. -/
theorem exec_of_checks_pass {i : Instr} {s : State} {effect : State → State}
    (hi : exec i s = guarded (configThen (configChecks s i) (laterChecks s i)) effect s)
    (h : ∀ b ∈ configChecks s i, b = true) (hl : firstFailure (laterChecks s i) = none) :
    exec i s = .next (effect s).recordSuccess :=
  hi.trans (guarded_pass ((firstFailure_configThen_of_true h _).trans hl))

theorem exec_dbscalar_of_legal {s : State} (hn : LegalFftSize s) (hpow : vPow s = true) :
    exec .dbscalar s = .next (s.setRes0 (powerDb s s.arg0 s.arg1)).recordSuccess := by
  obtain ⟨hpow2, hcap⟩ := hn
  exact exec_of_checks_pass (effect := fun s => s.setRes0 (powerDb s s.arg0 s.arg1)) rfl
    (by simp [configChecks, vFftPow2_iff.mpr hpow2, hpow]) (by simp [laterChecks, vFftCap_iff.mpr hcap])

theorem exec_window_of_legal {s : State} (hn : LegalFftSize s) (hwin : winKind s ≠ .reserved) :
    exec .window s = .next (windowInto s (readElements s .re (fftLength s))).recordSuccess := by
  obtain ⟨hpow2, hcap⟩ := hn
  exact exec_of_checks_pass (effect := fun s => windowInto s (readElements s .re (fftLength s))) rfl
    (by simp [configChecks, vFftPow2_iff.mpr hpow2, vWin_iff.mpr hwin]) (by simp [laterChecks, vFftCap_iff.mpr hcap])

end Sys2Proof.Machine

namespace Sys2Proof.Claims

open Sys2Proof Sys2Proof.Machine

/-- Settles O51: with its checks passed the command stores the model's dB scalar, which is the formula of R228. -/
theorem dbscalarResult : Obligations.DbscalarResult := fun _ hn hpow => exec_dbscalar_of_legal hn hpow

/-- Settles O55: each clause names the first check that fails, CONFIG before ALLOC before RANGE. -/
theorem spectralAndExportErrors : Obligations.SpectralAndExportErrors := by
  intro s nz config alloc
  have hconfig : ∀ {i}, false ∈ configChecks s i → exec i s = config := exec_of_illegal_setting
  have halloc : ∀ {i}, (∀ b ∈ configChecks s i, b = true) → firstFailure (laterChecks s i) = some .alloc →
      exec i s = alloc := exec_of_later_failure
  refine ⟨fun hsize => ?size, fun hwin => ?window, fun hpow => ?exponent, fun hmap => ?mapping,
    fun hspec => ?spectrumSettings, fun hsize hover => ?capacity,
    fun hsize hsyn hwin hpow hmap htime hnoise => ?spectrum, fun hover => ?pack32,
    fun hnan => ?query, fun hnan hvalid => ?noMapping⟩
  case size =>
    have h := vFftPow2_eq_false_iff.mpr hsize
    refine ⟨?_, ?_, ?_, ?_, ?_, ?_⟩ <;> exact hconfig (by simp [configChecks, h])
  case window =>
    have h := vWin_eq_false_iff.mpr hwin
    constructor <;> exact hconfig (by simp [configChecks, h])
  case exponent => refine ⟨?_, ?_, ?_⟩ <;> exact hconfig (by simp [configChecks, hpow])
  case mapping => constructor <;> exact hconfig (by simp [configChecks, hmap])
  case spectrumSettings =>
    rcases hspec with h | h | ⟨rfl, h⟩ <;> exact hconfig (by simp [configChecks, h])
  case capacity =>
    have h2 := vFftPow2_iff.mpr hsize
    have hcap : firstFailure [(vFftCap s, .alloc)] = some .alloc := by simp [vFftCap_eq_false_iff.mpr hover]
    exact ⟨halloc (by simp [configChecks, h2]) hcap,
      fun hwin => halloc (by simp [configChecks, h2, vWin_iff.mpr hwin]) hcap,
      fun hpow => ⟨halloc (by simp [configChecks, h2, hpow]) hcap, halloc (by simp [configChecks, h2, hpow]) hcap⟩,
      fun hmap => halloc (by simp [configChecks, h2, hmap]) hcap⟩
  case spectrum =>
    have hlegal : ∀ b ∈ configChecks s (.spectrum nz), b = true := by
      simpa [configChecks, vFftPow2_iff.mpr hsize, vWin_iff.mpr hwin, hsyn, hpow, hmap, htime] using
        vNoise_check_iff.mpr hnoise
    refine ⟨fun hover => halloc hlegal ?_, fun hcap hmsg hout => exec_of_later_failure (e := .range) hlegal ?_⟩
    · simp [laterChecks, vFftCap_eq_false_iff.mpr hover]
    · simp [laterChecks, vFftCap_iff.mpr hcap, spectrumTimes_out_of_range_iff.mpr ⟨hmsg, hout⟩]
  case pack32 => exact halloc (by simp [configChecks]) (by simp [laterChecks, vCount_eq_false_iff.mpr hover])
  case query => exact hconfig (by simp [configChecks, hnan])
  case noMapping =>
    exact exec_of_later_failure (e := .nospec) (by simp [configChecks, hnan]) (by simp [laterChecks, hvalid])

end Sys2Proof.Claims
end

section
/-!
PROOFS. SPEC_VALID (spec/44_spectral.md R241): which commands set it, and that nothing but reset clears it.
-/

namespace Sys2Proof.Machine

/-- The commands that latch a mapping (R236, R244). -/
def latchesMapping : Instr → Bool
  | .binmap | .spectrum _ => true
  | _ => false

theorem latchesMapping_iff {i : Instr} : latchesMapping i = true ↔ i = .binmap ∨ ∃ nz, i = .spectrum nz := by
  cases i <;> simp [latchesMapping]

@[simp] theorem writeReg_specValid (r : RegName) (v : Word) (s : State) :
    (writeReg r v s).specValid = s.specValid := by
  cases r <;> rfl

@[simp] theorem spectrumEffect_specValid (nz : Bool) (s : State) : (spectrumEffect nz s).specValid = true := rfl

/-- A guarded command that fails keeps SPEC_VALID, and one that succeeds leaves it as its effect does. -/
theorem guarded_specValid {checks : List (Bool × CmdError)} {effect : State → State} {s t : State}
    (h : guarded checks effect s = .next t) :
    (t.err = true ∧ t.specValid = s.specValid) ∨ (t.err = false ∧ t.specValid = (effect s).specValid) := by
  rcases guarded_cases h with ⟨e, -, rfl⟩ | ⟨-, rfl⟩
  · exact .inl ⟨rfl, rfl⟩
  · exact .inr ⟨rfl, rfl⟩

/-- The effect of a command latches a mapping or keeps SPEC_VALID; SAMPLE and SWEEP also branch on whether they
write PHASE (`apply_ite`). -/
theorem exec_specValid {i : Instr} {s t : State} (h : exec i s = .next t) :
    (t.err = true ∧ t.specValid = s.specValid)
      ∨ (t.err = false ∧ t.specValid = (latchesMapping i || s.specValid)) := by
  cases i with
  | sample im nz =>
    simp only [exec, execSample] at h
    simpa [apply_ite State.specValid, latchesMapping] using guarded_specValid h
  | sweep im nz pr =>
    simp only [exec, execSweep] at h
    simpa [apply_ite State.specValid, latchesMapping] using guarded_specValid h
  | _ =>
    simp only [exec, execNop, execSinc, execRcos, execGetsym, execIqpoint, execNoise, execWindow, execFft, execPower,
      execDbscalar, execBinmap, execSpectrum, execHover, execPack32] at h
    simpa [latchesMapping] using guarded_specValid h

end Sys2Proof.Machine

namespace Sys2Proof.Claims

open Sys2Proof Sys2Proof.Machine

/-- Settles O22: each clause by whether the command failed or succeeded, and in that case whether it latches. -/
theorem specValidIsSticky : Obligations.SpecValidIsSticky := by
  refine ⟨rfl, fun s r v => writeReg_specValid r v s, memWrite_specValid, fun i s t h => ?_⟩
  have hother : (i ≠ .binmap ∧ ∀ nz, i ≠ .spectrum nz) ↔ latchesMapping i = false := by
    simp [← Bool.not_eq_true, latchesMapping_iff]
  rw [← latchesMapping_iff, hother]
  rcases exec_specValid h with ⟨herr, hv⟩ | ⟨herr, hv⟩
  · simp [herr, hv]
  · simp +contextual [herr, hv]

end Sys2Proof.Claims
end

section
/-!
PROOFS. The bit-reversal permutation (spec/44_spectral.md R223): what `rev` does to the bits of an index, and that
the swaps taken in order put element `rev(i)` at `i`.
-/

namespace Sys2Proof.Machine

/-! ### The reversal of the low bits of an index -/

theorem bitRev_succ (m i : Nat) : bitRev (m + 1) i = 2 ^ m * (i % 2) + bitRev m (i / 2) := by
  rw [bitRev, Nat.shiftLeft_eq, Nat.mul_comm]

theorem bitRev_lt (m i : Nat) : bitRev m i < 2 ^ m := by
  induction m generalizing i with
  | zero => simp [bitRev]
  | succ m ih =>
    have hlow := ih (i / 2)
    rw [bitRev_succ, Nat.pow_succ]
    rcases Nat.mod_two_eq_zero_or_one i with h | h <;> rw [h] <;> omega

/-- Bit `k` of an index is bit `m - 1 - k` of its reversal. -/
theorem testBit_bitRev {m k : Nat} (i : Nat) (hk : k < m) : (bitRev m i).testBit (m - 1 - k) = i.testBit k := by
  induction m generalizing i k with
  | zero => omega
  | succ m ih =>
    rw [bitRev_succ, Nat.testBit_two_pow_mul_add _ (bitRev_lt m (i / 2))]
    cases k with
    | zero => simp
    | succ k =>
      have hk' : k < m := by omega
      rw [if_pos (by omega), Nat.testBit_succ, ← ih (i / 2) hk']
      congr 1
      omega

/-- Reversing twice gives the index back. -/
theorem bitRev_bitRev {m i : Nat} (hi : i < 2 ^ m) : bitRev m (bitRev m i) = i := by
  apply Nat.eq_of_testBit_eq
  intro j
  by_cases hj : j < m
  · have hback : m - 1 - (m - 1 - j) = j := by omega
    have hk : m - 1 - j < m := by omega
    calc (bitRev m (bitRev m i)).testBit j
        = (bitRev m (bitRev m i)).testBit (m - 1 - (m - 1 - j)) := by rw [hback]
      _ = (bitRev m i).testBit (m - 1 - j) := testBit_bitRev _ hk
      _ = i.testBit j := testBit_bitRev i hj
  · have hpow : 2 ^ m ≤ 2 ^ j := Nat.pow_le_pow_right (by decide) (by omega)
    rw [Nat.testBit_lt_two_pow (hi.trans_le hpow), Nat.testBit_lt_two_pow ((bitRev_lt m _).trans_le hpow)]

/-- On the indices below `2^m` the reversal is its own inverse. -/
theorem bitRev_eq_iff {m i j : Nat} (hi : i < 2 ^ m) (hj : j < 2 ^ m) : bitRev m i = j ↔ i = bitRev m j :=
  ⟨fun h => by rw [← h, bitRev_bitRev hi], fun h => by rw [h, bitRev_bitRev hj]⟩

/-! ### The swaps -/

/-- A swap exchanges the elements `i` and `rev(i)` if `i < rev(i)`, and leaves every other alone. -/
theorem cget_bitRevSwap {m i : Nat} {xs : List (F64 × F64)} (hlen : xs.length = 2 ^ m) (hi : i < 2 ^ m) (j : Nat) :
    cget (bitRevSwap m xs i) j =
      if i < bitRev m i ∧ (j = i ∨ j = bitRev m i) then cget xs (if j = i then bitRev m i else i)
      else cget xs j := by
  have hr := bitRev_lt m i
  by_cases hswap : i < bitRev m i
  · rw [bitRevSwap, if_pos hswap, cget_set _ _ _ _ (by simpa [hlen] using hr), cget_set _ _ _ _ (by omega)]
    by_cases hji : j = i
    · simp [hji, hswap, hswap.ne]
    · simp [hji, hswap]
  · simp [bitRevSwap, hswap]

/-- After the swaps of the indices below `n`, the elements whose index or its reversal is below `n` are in their
final place and the others are where they were. -/
theorem cget_foldl_bitRevSwap {m n j : Nat} {xs : List (F64 × F64)} (hlen : xs.length = 2 ^ m) (hn : n ≤ 2 ^ m)
    (hj : j < 2 ^ m) :
    cget ((List.range n).foldl (bitRevSwap m) xs) j =
      cget xs (if j < n ∨ bitRev m j < n then bitRev m j else j) := by
  induction n generalizing j with
  | zero => simp
  | succ n ih =>
    have hn' : n < 2 ^ m := by omega
    have hrn := bitRev_lt m n
    have hlen' : ((List.range n).foldl (bitRevSwap m) xs).length = 2 ^ m := by
      rw [foldl_length _ (bitRevSwap_length m), hlen]
    rw [List.range_succ, List.foldl_append, List.foldl_cons, List.foldl_nil, cget_bitRevSwap hlen' hn']
    split
    next hswap =>
      obtain ⟨hlt, rfl | rfl⟩ := hswap
      · rw [if_pos rfl, ih (by omega) hrn, bitRev_bitRev hn']
        simp [hlt.not_gt]
      · rw [if_neg hlt.ne', ih (by omega) hn', bitRev_bitRev hn']
        simp [hlt.not_gt]
    next hstay =>
      have hjn := bitRev_eq_iff hj hn'
      rw [ih (by omega) hj]
      congr 1
      by_cases hj' : j = n
      · subst hj'
        split <;> split <;> omega
      · split <;> split <;> omega

/-- The whole permutation puts element `rev(i)` at `i`. -/
theorem cget_bitReverse {m i : Nat} {xs : List (F64 × F64)} (hlen : xs.length = 2 ^ m) (hi : i < 2 ^ m) :
    cget (bitReverse m xs) i = cget xs (bitRev m i) := by
  rw [bitReverse, cget_foldl_bitRevSwap hlen le_rfl hi, if_pos (.inl hi)]

end Sys2Proof.Machine

namespace Sys2Proof.Claims

open Sys2Proof Sys2Proof.Machine

/-- Settles O47, by induction on the number of swaps made, the reversal being its own inverse. -/
theorem bitReversePermutes : Obligations.BitReversePermutes := fun m xs hlen =>
  ⟨(bitReverse_length m xs).trans hlen,
    fun i hi => ⟨cget_bitReverse hlen hi, bitRev_lt m i, fun _ hk => testBit_bitRev i hk⟩⟩

end Sys2Proof.Claims
end

section
/-!
PROOFS. Multiplication by 1.0, and WINDOW: what it leaves in RE and IM and which bytes it stores
(spec/44_spectral.md R221, R222).
-/

namespace Sys2Proof.Machine

open Sys2Proof.Claims

/-! ### The fields of a pattern, its magnitude and its significand -/

theorem fPack_fSign_fMagnitude (x : F64) : fPack (fSign x) (fMagnitude x) = x := by
  have := x.isLt
  apply BitVec.eq_of_toNat_eq
  rw [fPack_toNat, fSign_eq, fMagnitude_eq]
  by_cases h : 2 ^ 63 ≤ x.toNat
  · simp only [h, decide_true, if_true]
    omega
  · simp only [h, decide_false, Bool.false_eq_true, if_false]
    omega

/-- The magnitude bits are the exponent field and the fraction. -/
theorem fMagnitude_eq_fields (x : F64) : fMagnitude x = fExpField x * 2 ^ 52 + fFraction x := by
  rw [fMagnitude_eq, fExpField_eq, fFraction_eq]
  omega

theorem fFraction_lt (x : F64) : fFraction x < 2 ^ 52 := by
  rw [fFraction_eq]
  exact Nat.mod_lt _ (by decide)

theorem fMagnitude_of_isInf {x : F64} (h : isInf x = true) : fMagnitude x = 0x7FF0000000000000 := by
  simp only [isInf, Bool.and_eq_true, beq_iff_eq] at h
  rw [fMagnitude_eq_fields, h.1, h.2]
  rfl

/-- A finite value lies below infinity. -/
theorem fMagnitude_lt_of_isFinite {x : F64} (h : isFinite x = true) : fMagnitude x < 0x7FF0000000000000 := by
  have hne : fExpField x ≠ 2047 := by simpa [isFinite] using h
  have hlt : fExpField x < 2048 := by rw [fExpField_eq]; omega
  have hfrac := fFraction_lt x
  rw [fMagnitude_eq_fields]
  omega

theorem isFinite_of_not_isNaN_of_not_isInf {x : F64} (hnan : isNaN x = false) (hinf : isInf x = false) :
    isFinite x = true := by
  cases hfrac : fFraction x != 0 with
  | true => simpa [isNaN, isFinite, hfrac] using hnan
  | false =>
    have hzero : (fFraction x == 0) = true := by simpa using hfrac
    simpa [isInf, isFinite, hzero] using hinf

/-- The encoding of a significand at its exponent: the carry of its leading bit makes the exponent field. -/
theorem fExp_fSig_encode (x : F64) : (fExp x + 1074).toNat * 2 ^ 52 + fSig x = fMagnitude x := by
  rw [fMagnitude_eq_fields, fExp, fSig]
  split <;> omega

/-- A significand other than zero stands at the least exponent or has all 53 bits, so rounding finds its exponent. -/
theorem max_fExp_log2_fSig {x : F64} (h : fSig x ≠ 0) :
    max (fExp x + ((fSig x).log2 : Int) - 52) (-1074) = fExp x := by
  have hfrac := fFraction_lt x
  by_cases hsub : fExpField x = 0
  · have hlog : (fSig x).log2 < 52 := (Nat.log2_lt h).mpr (by simpa [fSig, hsub] using hfrac)
    simp only [fExp, hsub, if_true]
    omega
  · have hlog : (fSig x).log2 = 52 := (Nat.log2_eq_iff h).mpr (by simp only [fSig, hsub, if_false]; omega)
    simp only [fExp, hsub, if_false]
    omega

/-! ### Multiplication by 1.0 -/

theorem log2_mul_two_pow {m : Nat} (hm : m ≠ 0) (k : Nat) : (m * 2 ^ k).log2 = m.log2 + k := by
  induction k with
  | zero => simp
  | succ k ih =>
    have hne : m * 2 ^ k ≠ 0 := by positivity
    rw [show m * 2 ^ (k + 1) = 2 * (m * 2 ^ k) by ring, Nat.log2_two_mul hne, ih]
    rfl

/-- Shifting out zeros is exact. -/
theorem roundShift_mul_two_pow (m sh : Nat) : roundShift (m * 2 ^ sh) sh false = m := by
  have hhi : (m * 2 ^ sh) >>> sh = m := by
    rw [Nat.shiftRight_eq_div_pow, Nat.mul_div_cancel _ (Nat.two_pow_pos sh)]
  have hhalf : sh ≠ 0 → (1 <<< sh) >>> 1 ≠ 0 := by
    intro hsh
    obtain ⟨k, rfl⟩ := Nat.exists_eq_succ_of_ne_zero hsh
    simp [Nat.shiftLeft_eq, Nat.shiftRight_eq_div_pow, Nat.pow_succ]
  simp only [roundShift, hhi, Nat.shiftLeft_eq m, Nat.sub_self, Nat.not_lt_zero, false_or]
  exact if_neg fun ⟨h, hsh, _⟩ => hhalf hsh h

/-- Rounding a finite value given with 52 zeros below its significand gives its magnitude bits back. -/
theorem roundCode_scaled_fSig {x : F64} (h : isFinite x = true) :
    roundCode binary64 (fSig x * 2 ^ 52) (fExp x - 52) false = fMagnitude x := by
  have hmag := fExp_fSig_encode x
  by_cases hz : fSig x = 0
  · have hexp : fExp x = -1074 := by
      have hsub : fExpField x = 0 := by
        by_contra hne
        simp [fSig, hne] at hz
      simp [fExp, hsub]
    simp [roundCode, hz, hexp, ← hmag]
  · have hexp : max (fExp x - 52 + ((fSig x * 2 ^ 52).log2 : Int) - 52) (-1074) = fExp x := by
      rw [log2_mul_two_pow hz]
      push_cast
      rw [show fExp x - 52 + ((fSig x).log2 + 52 : Int) - 52 = fExp x + ((fSig x).log2 : Int) - 52 by ring]
      exact max_fExp_log2_fSig hz
    have hle : ¬ fExp x ≤ fExp x - 52 := by omega
    have hshift : (fExp x - (fExp x - 52)).toNat = 52 := by omega
    have hinf := fMagnitude_lt_of_isFinite h
    have hne : fSig x * 2 ^ 52 ≠ 0 := by positivity
    simp only [roundCode, binary64, Nat.cast_ofNat, hexp, hne, hle, hshift, roundShift_mul_two_pow, if_false,
      Nat.shiftLeft_eq, sub_neg_eq_add, hmag]
    exact min_eq_right hinf.le

/-- Every pattern but a NaN times 1.0 is itself (R222). -/
theorem fmul_one {x : F64} (h : isNaN x = false) : fmul x fOne = x := by
  obtain ⟨hnan1, hinf1, hzero1, hsign1, hsig1, hexp1⟩ :
      isNaN fOne = false ∧ isInf fOne = false ∧ isZero fOne = false ∧ fSign fOne = false
        ∧ fSig fOne = 2 ^ 52 ∧ fExp fOne = -52 := by decide
  have hpack := fPack_fSign_fMagnitude x
  cases hinf : isInf x with
  | true =>
    rw [fMagnitude_of_isInf hinf] at hpack
    simpa [fmul, h, hnan1, hinf, hzero1, hsign1] using hpack
  | false =>
    rw [← roundCode_scaled_fSig (isFinite_of_not_isNaN_of_not_isInf h hinf)] at hpack
    simpa [fmul, h, hnan1, hinf, hinf1, hsign1, hsig1, hexp1, fRound, sub_eq_add_neg] using hpack

/-! ### Windowed samples in RE and IM -/

@[simp] theorem readByte_recordSuccess (s : State) (a : Nat) : readByte s.recordSuccess a = readByte s a := rfl

@[simp] theorem readElement_recordSuccess (s : State) (r : Region) (i : Nat) :
    readElement s.recordSuccess r i = readElement s r i := rfl

/-- A byte outside the elements written reads as before. -/
theorem readByte_writeElements_outside {s : State} {r : Region} {xs : List F64} {a : Nat}
    (h : ¬ Within r.base (8 * xs.length) a) : readByte (writeElements s r xs) a = readByte s a := by
  simp only [Within, not_and, not_lt] at h
  refine readByte_writeBytes_outside _ _ _ ?_
  rw [elementBytes_length]
  omega

@[simp] theorem applyWindow_length (s : State) (xs : List F64) : (applyWindow s xs).length = xs.length := by
  simp [applyWindow]

@[simp] theorem readElements_length (s : State) (r : Region) (n : Nat) : (readElements s r n).length = n := by
  simp [readElements]

@[simp] theorem readElements_getElem (s : State) (r : Region) {n i : Nat} (h : i < (readElements s r n).length) :
    (readElements s r n)[i] = readElement s r i := by
  simp [readElements]

theorem readByte_windowInto_outside {s : State} {xs : List F64} {a : Nat}
    (hre : ¬ Within 0x100000 (8 * xs.length) a) (him : ¬ Within 0x180000 (8 * xs.length) a) :
    readByte (windowInto s xs) a = readByte s a := by
  rw [windowInto, readByte_writeElements_outside (by simpa [Region.base] using hre),
    readByte_writeElements_outside (by simpa [Region.base] using him)]

theorem readElement_windowInto_re (s : State) {xs : List F64} {i : Nat} (h : i < xs.length) :
    readElement (windowInto s xs) .re i = fmul xs[i] (winWeight s i) := by
  rw [windowInto, readElement_writeElements_self _ _ _ (by simpa using h)]
  simp [applyWindow]

/-- Windowing changes memory and nothing else. -/
theorem windowInto_frame (s : State) (xs : List F64) :
    (windowInto s xs).recordSuccess =
      { s with mem := (windowInto s xs).recordSuccess.mem, err := false, ecode := 0 } := rfl

/-- The imaginary parts are cleared: with at most 65536 samples RE ends where IM begins (R71). -/
theorem readElement_windowInto_im (s : State) {xs : List F64} {i : Nat} (h : i < xs.length)
    (hcap : xs.length ≤ 65536) : readElement (windowInto s xs) .im i = fZero := by
  rw [windowInto, readElement_writeElements_other, readElement_writeElements_self _ _ _ (by simpa using h)]
  · simp
  · simp only [Region.element, Region.base, applyWindow_length]
    omega

/-- `N_MAX` is at most 65536 (R5). -/
theorem nMax_le (p : Config.Params) : p.nMax ≤ 65536 :=
  Nat.pow_le_pow_right (by decide) (show 10 + p.nMaxExp.val ≤ 16 by omega)

/-! ### The window weights (R221) -/

theorem winWeight_of_rectangular {s : State} (h : winKind s = .rectangular) (i : Nat) : winWeight s i = fOne := by
  simp only [winWeight, h]

theorem winWeight_of_hann {s : State} (h : winKind s = .hann) (i : Nat) :
    winWeight s i = fmul fHalf (fsub fOne (Config.cos (winAngle s i))) := by
  simp only [winWeight, h]

theorem winWeight_of_hamming {s : State} (h : winKind s = .hamming) (i : Nat) :
    winWeight s i = fsub C054 (fmul C046 (Config.cos (winAngle s i))) := by
  simp only [winWeight, h]

end Sys2Proof.Machine

namespace Sys2Proof.Claims

open Sys2Proof Sys2Proof.Machine

/-- Settles O46: the checks pass, and each element is the windowed sample, whose weight is that of the window. -/
theorem windowResult : Obligations.WindowResult := by
  intro s hn hwin
  have hlen : (readElements s .re (fftLength s)).length = s.fftSize.toNat := readElements_length _ _ _
  refine ⟨_, exec_window_of_legal hn hwin, windowInto_frame _ _, fun a ha => ?frame, fun i hi => ?elements⟩
  case frame =>
    rw [StoresTo, ← hlen, not_or] at ha
    rw [readByte_recordSuccess, readByte_windowInto_outside ha.1 ha.2]
  case elements =>
    rw [← hlen] at hi
    simp only [readElement_recordSuccess, readElement_windowInto_re s hi, readElements_getElem]
    refine ⟨readElement_windowInto_im s hi (hlen ▸ hn.2.trans (nMax_le _)), fun h => ?rectangular,
      fun h => ?hann, fun h => ?hamming⟩
    case rectangular =>
      rw [winWeight_of_rectangular h]
      exact ⟨rfl, fmul_one⟩
    case hann => rw [winWeight_of_hann h]; rfl
    case hamming => rw [winWeight_of_hamming h]; rfl

end Sys2Proof.Claims
end

section
/-!
PROOFS. The export packer and control (spec/45_export_control.md R270 to R273): the bytes of a packed sample, what
PACK32 leaves in memory, and the one word of opcode 0 that decodes.
-/

namespace Sys2Proof.Machine

open Sys2Proof.Claims

/-! ### The bytes of a packed sample (R270) -/

/-- Byte `k` of a number is its digit at `256^k`. -/
theorem leBytes_getElem? {n k : Nat} (v : Nat) (hk : k < n) :
    (leBytes n v)[k]? = some (BitVec.ofNat 8 (v / 256 ^ k)) := by
  induction n generalizing v k with
  | zero => omega
  | succ n ih =>
    cases k with
    | zero => simp [leBytes]
    | succ k =>
      rw [leBytes, List.getElem?_cons_succ, ih (v / 256) (by omega), Nat.div_div_eq_div_mul, ← Nat.pow_succ']

/-- The digit of a word at `256^k` is its slice at bit `8k`. -/
theorem ofNat_toNat_div_eq_extractLsb' {w : Nat} (x : BitVec w) (k : Nat) :
    BitVec.ofNat 8 (x.toNat / 256 ^ k) = x.extractLsb' (8 * k) 8 := by
  apply BitVec.eq_of_toNat_eq
  rw [BitVec.toNat_ofNat, BitVec.extractLsb'_toNat, Nat.shiftRight_eq_div_pow, Nat.pow_mul]

@[simp] theorem packBytes_nil : packBytes [] = [] := rfl

@[simp] theorem packBytes_cons (x : F64) (xs : List F64) :
    packBytes (x :: xs) = leBytes 4 (toF32 x).toNat ++ packBytes xs := rfl

theorem packBytes_length (xs : List F64) : (packBytes xs).length = 4 * xs.length := by
  induction xs with
  | nil => rfl
  | cons x xs ih =>
    simp only [packBytes_cons, List.length_append, leBytes_length, ih, List.length_cons]
    omega

/-- Byte `4*i + k` of the export is byte `k` of the encoding of sample `i`. -/
theorem packBytes_getElem? {xs : List F64} {i k : Nat} (hi : i < xs.length) (hk : k < 4) :
    (packBytes xs)[4 * i + k]? = some ((toF32 xs[i]).extractLsb' (8 * k) 8) := by
  induction xs generalizing i with
  | nil => simp at hi
  | cons x xs ih =>
    cases i with
    | zero =>
      rw [packBytes_cons, List.getElem?_append_left (by simpa using hk), Nat.mul_zero, Nat.zero_add,
        leBytes_getElem? _ hk, ofNat_toNat_div_eq_extractLsb', List.getElem_cons_zero]
    | succ i =>
      have hstart : 4 * (i + 1) + k - 4 = 4 * i + k := by omega
      rw [packBytes_cons, List.getElem?_append_right (by simp; omega), leBytes_length, hstart, ih (by simpa using hi),
        List.getElem_cons_succ]

/-! ### Packed samples in XBUF (R271) -/

/-- The state with the samples `xs` packed into XBUF from its first byte on. -/
def packInto (s : State) (xs : List F64) : State :=
  s.setMem (Memory.writeBytes s.mem (Region.base .xbuf) (packBytes xs))

theorem vCount_iff {s : State} : vCount s = true ↔ s.count.toNat ≤ s.params.nMax := decide_eq_true_iff

theorem exec_pack32_of_count_le {s : State} (h : s.count.toNat ≤ s.params.nMax) :
    exec .pack32 s = .next (packInto s (readElements s .re s.count.toNat)).recordSuccess :=
  exec_of_checks_pass (effect := fun s => packInto s (readElements s .re s.count.toNat)) rfl
    (by simp [configChecks]) (by simp [laterChecks, vCount_iff.mpr h])

/-- Packing changes memory and nothing else. -/
theorem packInto_frame (s : State) (xs : List F64) :
    (packInto s xs).recordSuccess = { s with mem := (packInto s xs).recordSuccess.mem, err := false, ecode := 0 } :=
  rfl

/-- A byte outside the packed samples reads as before. -/
theorem readByte_packInto_outside {s : State} {xs : List F64} {a : Nat} (h : ¬ Within 0x240000 (4 * xs.length) a) :
    readByte (packInto s xs) a = readByte s a := by
  simp only [Within, not_and, not_lt] at h
  refine readByte_writeBytes_outside _ _ _ ?_
  simp only [packBytes_length, Region.base]
  omega

/-- A byte of a packed sample reads as that byte of its encoding. -/
theorem readByte_packInto_inside (s : State) {xs : List F64} {i k : Nat} (hi : i < xs.length) (hk : k < 4) :
    readByte (packInto s xs) (0x240000 + 4 * i + k) = (toF32 xs[i]).extractLsb' (8 * k) 8 := by
  obtain ⟨hlt, hbyte⟩ := List.getElem?_eq_some_iff.mp (packBytes_getElem? hi hk)
  rw [Nat.add_assoc, ← hbyte]
  exact readByte_writeBytes_inside s (Region.base .xbuf) (packBytes xs) hlt

/-! ### The words of opcode 0 (R273) -/

/-- NOP accepts no option field, so the only legal word of opcode 0 is the zero word. -/
theorem eq_zero_of_legal_of_opcode_zero {w : CmdWord} (h : (CmdFields.ofWord w).legal = true)
    (hopc : w.toNat % 64 = 0) : w = 0 := by
  obtain ⟨-, hres, him, hnz, hpr, -⟩ := (CmdFields.legal_ofWord w).mp h
  simp only [hopc] at him hnz hpr
  have him := him (by decide)
  have hnz := hnz (by decide)
  have hpr := hpr (by decide)
  have hzero : w.toNat = 0 := by omega
  exact BitVec.eq_of_toNat_eq hzero

end Sys2Proof.Machine

namespace Sys2Proof.Claims

open Sys2Proof Sys2Proof.Machine

/-- Settles O59: the check passes, and each byte of XBUF is read out of the packed samples or left alone by them. -/
theorem pack32Result : Obligations.Pack32Result := by
  intro s hcount
  have hlen : (readElements s .re s.count.toNat).length = s.count.toNat := readElements_length _ _ _
  refine ⟨_, exec_pack32_of_count_le hcount, packInto_frame _ _, fun a ha => ?frame, fun i hi k hk => ?bytes⟩
  case frame =>
    rw [StoresTo, ← hlen] at ha
    rw [readByte_recordSuccess, readByte_packInto_outside ha]
  case bytes =>
    rw [← hlen] at hi
    rw [readByte_recordSuccess, readByte_packInto_inside s hi hk, readElements_getElem]

/-- Settles O29: NOP has no check and no effect, and a word of opcode 0 other than zero is not legal. -/
theorem nopClearsErrorOnly : Obligations.NopClearsErrorOnly := by
  refine ⟨guarded_nil (fun s => s), fun w s hopc hne => ?illegal⟩
  case illegal =>
    have hnone : ∀ i, decode w ≠ .ok i := fun i hi =>
      hne (eq_zero_of_legal_of_opcode_zero (legal_of_decode hi) hopc)
    exact runCommand_of_not_decode hnone s

end Sys2Proof.Claims
end

section
/-!
PROOFS. How a command fails (spec/60_exceptions.md R283, R285): the only failing end of a command word is the record
of an error.
-/

namespace Sys2Proof.Machine

/-- A command that ends with ERR set has recorded an error: its effect cannot have happened, because a command that
takes its effect then records success and so clears ERR. -/
theorem exec_next_of_err {i : Instr} {s t : State} (h : exec i s = .next t) (herr : t.err = true) :
    ∃ e, t = s.recordError e := by
  obtain ⟨checks, effect, hi⟩ := exec_guarded i s
  rcases exec_cases hi h with ⟨e, -, rfl⟩ | ⟨-, rfl⟩
  case inl => exact ⟨e, rfl⟩
  case inr => simp at herr

/-- A word that decodes fails as its instruction does, and every other word is ILLEGAL (R105). -/
theorem runCommand_next_of_err {w : CmdWord} {s t : State} (h : runCommand w s = .next t) (herr : t.err = true) :
    ∃ e, t = s.recordError e := by
  by_cases hd : ∃ i, decode w = .ok i
  case pos =>
    obtain ⟨i, hi⟩ := hd
    exact exec_next_of_err (runCommand_of_decode hi s ▸ h) herr
  case neg =>
    rw [runCommand_of_not_decode (not_exists.mp hd)] at h
    injection h with h
    exact ⟨.illegal, h.symm⟩

end Sys2Proof.Machine

namespace Sys2Proof.Claims

open Sys2Proof Sys2Proof.Machine

/-- Settles O17: a failing command only records an error, and `recordError` writes nothing but ERR and ECODE. -/
theorem failingCommandLeavesNoTrace : Obligations.FailingCommandLeavesNoTrace := by
  intro w s t h herr
  obtain ⟨e, rfl⟩ := runCommand_next_of_err h herr
  exact ⟨rfl, recordError_drawPos s e⟩

end Sys2Proof.Claims
end

section
/-!
PROOFS. The registers after reset, and which commands work with them (spec/70_reset_and_hazards.md R310).
-/

namespace Sys2Proof.Machine

/-! ### The registers -/

/-- What `resetBlock` keeps of the state before it is outside the register map. -/
theorem readReg_resetBlock (r : RegName) (s : State) : readReg r (resetBlock s) = readReg r State.reset := by
  cases r <;> rfl

/-- The reset values of R33. -/
theorem readReg_reset (r : RegName) : readReg r State.reset = if r = .id then 0x5347565A00070001 else 0 := by
  cases r <;> rfl

/-! ### The settings after reset -/

@[simp] theorem bitsPerSymbol_resetBlock (s : State) : bitsPerSymbol (resetBlock s) = 0 := by
  simp [bitsPerSymbol, State.reset]

@[simp] theorem vBps_resetBlock (s : State) : vBps (resetBlock s) = false := by simp [vBps]

@[simp] theorem vMod_resetBlock (s : State) : vMod (resetBlock s) = false := by simp [vMod]

@[simp] theorem vSyn_resetBlock (s : State) : vSyn (resetBlock s) = false := by simp [vSyn]

@[simp] theorem vFftPow2_resetBlock (s : State) : vFftPow2 (resetBlock s) = false := rfl

/-- An AMPLITUDE and an SNR_DB of `+0.0` are both legal (R38, R43). -/
@[simp] theorem vNoise_resetBlock (s : State) : vNoise (resetBlock s) = true := by
  change vNoise State.reset = true
  decide

/-- A COUNT of 0 exceeds no buffer. -/
@[simp] theorem vCount_resetBlock (s : State) : vCount (resetBlock s) = true := vCount_iff.mpr (Nat.zero_le _)

/-! ### The commands after reset -/

/-- Every other command reads BPS, directly or within V_MOD or V_SYN, or the FFT size, and neither is legal at 0. -/
theorem false_mem_configChecks_resetBlock {i : Instr}
    (h : i ∉ [Instr.nop, .sinc, .rcos, .noise, .pack32, .hover]) (s : State) :
    false ∈ configChecks (resetBlock s) i := by
  cases i with
  | nop | sinc | rcos | noise | pack32 | hover => simp at h
  | getsym | sample | sweep | iqpoint => simp [configChecks]  -- BPS
  | window | fft | power | dbscalar | binmap | spectrum => simp [configChecks]  -- FFT size

/-- A command with no failing check records success, whatever its effect. -/
theorem exec_succeeds_of_checks_pass {i : Instr} {s : State} (h : ∀ b ∈ configChecks s i, b = true)
    (hl : firstFailure (laterChecks s i) = none) : ∃ t, exec i s = .next t ∧ t.err = false ∧ t.ecode = 0 := by
  obtain ⟨effect, hi⟩ := exec_eq_guarded i s
  exact ⟨_, exec_of_checks_pass hi h hl, recordSuccess_err _, recordSuccess_ecode _⟩

/-- SINC, RCOS and NOP check nothing; NOISE and PACK32 only what is legal at 0. -/
theorem checks_pass_resetBlock {i : Instr} (h : i ∈ [Instr.nop, .sinc, .rcos, .noise, .pack32]) (s : State) :
    (∀ b ∈ configChecks (resetBlock s) i, b = true) ∧ firstFailure (laterChecks (resetBlock s) i) = none := by
  cases i with
  | nop | sinc | rcos | noise | pack32 => simp [configChecks, laterChecks]
  | _ => simp at h

end Sys2Proof.Machine

namespace Sys2Proof.Claims

open Sys2Proof Sys2Proof.Machine

/-- Settles O11: the registers are those of `State.reset`; with BPS and the FFT size at 0 every command that reads
them has an illegal setting, and the five that read neither pass their checks. -/
theorem resetRegisterValues : Obligations.ResetRegisterValues := by
  intro s
  refine ⟨fun r => ?afterReset, readReg_reset, fun i hi => ?unconfigured, fun i hi => ?selfSufficient⟩
  case afterReset => rw [readReg_resetBlock, readReg_reset]
  case unconfigured => exact exec_of_illegal_setting (false_mem_configChecks_resetBlock hi s)
  case selfSufficient =>
    obtain ⟨hconfig, hlater⟩ := checks_pass_resetBlock hi s
    exact exec_succeeds_of_checks_pass hconfig hlater

end Sys2Proof.Claims
end

section
/-!
PROOFS. Decoding inverts encoding (spec/30_encoding.md R101 to R105): a word is made of its fields, and legal fields
are those of the instruction they decode to.
-/

namespace Sys2Proof

/-! ### A word is the word of its fields (R101) -/

/-- A bit is a slice of width 1. -/
theorem ofBool_getLsbD_eq_extractLsb' {n : Nat} (w : BitVec n) (k : Nat) :
    BitVec.ofBool (w.getLsbD k) = w.extractLsb' k 1 := by
  apply BitVec.eq_of_getLsbD_eq
  intro j hj
  obtain rfl : j = 0 := by omega
  simp

/-- The five fields of a word are adjacent slices that cover it. -/
theorem CmdFields.toWord_ofWord (w : CmdWord) : (CmdFields.ofWord w).toWord = w := by
  simp only [toWord, ofWord, ofBool_getLsbD_eq_extractLsb']
  rw [BitVec.extractLsb'_append_extractLsb'_eq_extractLsb' (show 10 = 9 + 1 from rfl),
    BitVec.extractLsb'_append_extractLsb'_eq_extractLsb' (show 9 = 8 + 1 from rfl),
    BitVec.extractLsb'_append_extractLsb'_eq_extractLsb' (show 8 = 6 + 2 from rfl),
    BitVec.extractLsb'_append_extractLsb'_eq_extractLsb' (show 6 = 0 + 6 from rfl)]
  exact BitVec.extractLsb'_eq_self

/-! ### The opcode map in both directions (R102) -/

/-- The word of an instruction is legal and has exactly its fields. -/
theorem encoding_statement (i : Instr) : Laws.Encoding.Statement i := by
  cases i with
  | nop => exact Laws.Encoding.nop
  | sinc => exact Laws.Encoding.sinc
  | rcos => exact Laws.Encoding.rcos
  | getsym => exact Laws.Encoding.getsym
  | sample im nz => exact Laws.Encoding.sample im nz
  | sweep im nz pr => exact Laws.Encoding.sweep im nz pr
  | iqpoint nz => exact Laws.Encoding.iqpoint nz
  | noise => exact Laws.Encoding.noise
  | window => exact Laws.Encoding.window
  | fft => exact Laws.Encoding.fft
  | power => exact Laws.Encoding.power
  | dbscalar => exact Laws.Encoding.dbscalar
  | binmap => exact Laws.Encoding.binmap
  | spectrum nz => exact Laws.Encoding.spectrum nz
  | hover => exact Laws.Encoding.hover
  | pack32 => exact Laws.Encoding.pack32

theorem instrOfFields_fields (i : Instr) : instrOfFields i.fields = .ok i := by
  cases i with
  | sample im nz => cases im <;> rfl
  | sweep im nz pr => cases im <;> rfl
  | _ => rfl

theorem IndexMode.field_of_ofField {b : BitVec 2} {im : IndexMode} (h : IndexMode.ofField b = some im) :
    im.field = b := by
  revert h; cases im <;> revert b <;> decide

/-- The option fields an opcode does not accept are 0 (R103). -/
theorem CmdFields.unaccepted_options_clear {f : CmdFields} (h : f.optionsAccepted = true) :
    (f.opc.toNat ∉ [0x04, 0x05] → f.im = 0) ∧ (f.opc.toNat ∉ [0x04, 0x05, 0x06, 0x0D] → f.nz = false)
      ∧ (f.opc.toNat ≠ 0x05 → f.pr = false) := by
  simpa only [optionsAccepted, Bool.and_eq_true, Bool.or_eq_true, accepts_contains_im, accepts_contains_nz,
    accepts_contains_pr, beq_iff_eq, Bool.not_eq_true', or_iff_not_imp_left, and_assoc, ne_eq] using h

/-- Legal fields are those of the instruction they stand for: opcode by opcode, what the instruction does not carry
is a reserved bit or an option its opcode does not accept, so 0. -/
theorem fields_of_instrOfFields {f : CmdFields} {i : Instr} (hl : f.legal = true)
    (h : instrOfFields f = .ok i) : i.fields = f := by
  obtain ⟨hres, -, hopt, -⟩ := CmdFields.legal_iff.mp hl
  obtain ⟨him, hnz, hpr⟩ := CmdFields.unaccepted_options_clear hopt
  obtain ⟨res, pr, nz, im, opc⟩ := f
  obtain rfl : res = 0 := by simpa [CmdFields.reservedClear] using hres
  simp only [instrOfFields] at h
  cases hm : IndexMode.ofField im with
  | none => simp [hm] at h
  | some m =>
    have hfield := IndexMode.field_of_ofField hm
    simp only [hm] at h him hnz hpr
    split at h <;> rename_i hopc <;> cases h <;> rw [hopc] at him hnz hpr <;>
      simp_all [Instr.fields, ← BitVec.toNat_inj]

/-! ### Decoding (R105) -/

theorem decode_eq_of_legal {w : CmdWord} (h : (CmdFields.ofWord w).legal = true) :
    decode w = instrOfFields (CmdFields.ofWord w) := by
  obtain ⟨hres, hopc, hopt, hmode⟩ := CmdFields.legal_iff.mp h
  simp [decode, hres, hopc, hopt, hmode]

theorem decode_encode (i : Instr) : decode (encode i) = .ok i := by
  obtain ⟨hwf, hfields⟩ := encoding_statement i
  rw [decode_eq_of_legal (hfields ▸ hwf), hfields, instrOfFields_fields]

theorem encode_of_decode {w : CmdWord} {i : Instr} (h : decode w = .ok i) : encode i = w := by
  have hl := legal_of_decode h
  rw [encode, fields_of_instrOfFields hl (decode_eq_of_legal hl ▸ h), CmdFields.toWord_ofWord]

end Sys2Proof

namespace Sys2Proof.Claims

open Sys2Proof Sys2Proof.Machine

/-- Settles O1, by the two directions of the field layout and the opcode map. -/
theorem decodeInvertsEncode : Obligations.DecodeInvertsEncode :=
  fun _ i => ⟨encode_of_decode, fun h => h ▸ decode_encode i⟩

/-- Settles O3: each word is evaluated. -/
theorem decodePublishedWords : Obligations.DecodePublishedWords := by
  unfold Obligations.DecodePublishedWords
  decide

/-- Settles O5: the access put first is a CMD write, whose low 32 bits are the word and decode to its instruction. -/
theorem fetchedWordIsRun : Obligations.FetchedWordIsRun := by
  intro s i
  have hword : ((BitVec.ofNat 32 ((encode i).toNat % 2 ^ 32)).setWidth 64).setWidth 32 = encode i := by
    rw [Nat.mod_eq_of_lt (encode i).isLt]
    simp
  rw [step_cmdWrite (s := s.withFetchWord 32 (encode i).toNat) rfl, hword, runCommand_of_decode (decode_encode i)]
  rfl

end Sys2Proof.Claims
end

section
/-!
PROOFS. Every command as its checks and one effect, what the effect may change, and how a command ends
(spec/10_state.md R61, spec/42_synthesizer.md R171, spec/43_noise.md R202, spec/60_exceptions.md R281 to R283).
-/

namespace Sys2Proof.Machine

open Sys2Proof.Claims

/-! ### The effects -/

/-- The sample of SAMPLE and the FSK phase after it. -/
def sampleValue (s : State) (im : IndexMode) : F64 × F64 := synth s s.arg0 im s.phase

/-- SAMPLE's effect, its PHASE written in one place: the advanced phase under FSK and the old one otherwise (R168). -/
def sampleEffect (im : IndexMode) (nz : Bool) (s : State) : State :=
  let z := withNoise s nz (sampleValue s im).1 s.drawPos
  ((s.setRes0 z.1).setDrawPos z.2).setPhase (if modKind s = .fsk then (sampleValue s im).2 else s.phase)

/-- The block of samples of SWEEP (R170). -/
def sweepBlock (s : State) (im : IndexMode) (nz pr : Bool) : SampleBlock :=
  synthBlock s im nz (sampleTimes s s.arg0 s.count.toNat) (if pr then fZero else s.phase) s.drawPos

/-- SWEEP's effect, its PHASE written in one place (R170). -/
def sweepEffect (im : IndexMode) (nz pr : Bool) (s : State) : State :=
  let b := sweepBlock s im nz pr
  ((writeElements s .re b.samples).setDrawPos b.drawPos).setPhase
    (if modKind s = .fsk then b.phase else if pr then fZero else s.phase)

/-- HOVER's effect (R247). -/
def hoverEffect (s : State) : State :=
  let k := hoverBin s s.arg0
  ((s.setResi (BitVec.ofInt 32 k)).setRes0 (fmul (ofInt k) s.freqPerBin)).setRes1 (readElement s .psd k.toNat)

/-- The effect of each command whose checks pass, before success is recorded; `exec_eq_guarded_commandEffect` ties
it to `exec`. -/
def commandEffect (i : Instr) (s : State) : State :=
  match i with
  | .nop => s
  | .sinc => s.setRes0 (sincf s.arg0)
  | .rcos => s.setRes0 (rcos s.arg0 s.arg1 s.arg2)
  | .getsym => s.setResi (BitVec.ofNat 32 (symbolAt s s.argi.toNat (bitsPerSymbol s)))
  | .sample im nz => sampleEffect im nz s
  | .sweep im nz pr => sweepEffect im nz pr s
  | .iqpoint nz => ((s.setRes0 (iqOutput s nz).1.1).setRes1 (iqOutput s nz).1.2).setDrawPos (iqOutput s nz).2
  | .noise => (s.setRes0 (addNoise s fZero s.drawPos).1).setDrawPos (addNoise s fZero s.drawPos).2
  | .window => windowInto s (readElements s .re (fftLength s))
  | .fft => transformBuffers s
  | .power => fillPsd s
  | .dbscalar => s.setRes0 (powerDb s s.arg0 s.arg1)
  | .binmap => latchVisible s
  | .spectrum nz => spectrumEffect nz s
  | .hover => hoverEffect s
  | .pack32 => packInto s (readElements s .re s.count.toNat)

/-- The checks of each command, in the order of R284. -/
def commandChecks (s : State) (i : Instr) : List (Bool × CmdError) :=
  configThen (configChecks s i) (laterChecks s i)

/-- Writing PHASE in the branches of SAMPLE or once after them is the same. -/
theorem sampleEffect_eq (im : IndexMode) (nz : Bool) (s : State) :
    sampleEffect im nz s =
      (let y := synth s s.arg0 im s.phase
       let z := withNoise s nz y.1 s.drawPos
       let t := (s.setRes0 z.1).setDrawPos z.2
       if modKind s = .fsk then t.setPhase y.2 else t) := by
  unfold sampleEffect
  by_cases hmod : modKind s = .fsk
  · simp only [hmod, if_true]
    rfl
  · simp only [hmod, if_false]
    rfl

/-- Writing PHASE in the branches of SWEEP or once after them is the same. -/
theorem sweepEffect_eq (im : IndexMode) (nz pr : Bool) (s : State) :
    sweepEffect im nz pr s =
      (let ph := if pr then fZero else s.phase
       let b := synthBlock s im nz (sampleTimes s s.arg0 s.count.toNat) ph s.drawPos
       let t := (writeElements s .re b.samples).setDrawPos b.drawPos
       if modKind s = .fsk then t.setPhase b.phase
       else if pr then t.setPhase fZero
       else t) := by
  unfold sweepEffect
  by_cases hmod : modKind s = .fsk
  · simp only [hmod, if_true]
    rfl
  · cases pr <;> simp only [hmod, if_false, Bool.false_eq_true, if_true] <;> rfl

theorem exec_eq_guarded_commandEffect (i : Instr) (s : State) :
    exec i s = guarded (commandChecks s i) (commandEffect i) s := by
  cases i with
  | sample im nz =>
    rw [show commandEffect (.sample im nz) = _ from funext (sampleEffect_eq im nz)]
    rfl
  | sweep im nz pr =>
    rw [show commandEffect (.sweep im nz pr) = _ from funext (sweepEffect_eq im nz pr)]
    rfl
  | _ => rfl

/-- Everything a command can do: a failed check records its error and nothing else; otherwise the command has its
effect and records success. -/
theorem exec_next_cases {i : Instr} {s t : State} (h : exec i s = .next t) :
    (∃ e, firstFailure (commandChecks s i) = some e ∧ t = s.recordError e)
      ∨ (firstFailure (commandChecks s i) = none ∧ t = (commandEffect i s).recordSuccess) :=
  exec_cases (exec_eq_guarded_commandEffect i s) h

/-- A command that ends without an error has passed its checks and had its effect. -/
theorem exec_next_of_not_err {i : Instr} {s t : State} (h : exec i s = .next t) (herr : t.err = false) :
    firstFailure (commandChecks s i) = none ∧ t = (commandEffect i s).recordSuccess := by
  rcases exec_next_cases h with ⟨e, -, rfl⟩ | hpass
  · simp at herr
  · exact hpass

/-- A command whose checks pass has its effect. -/
theorem exec_of_passes {i : Instr} {s : State} (h : firstFailure (commandChecks s i) = none) :
    exec i s = .next (commandEffect i s).recordSuccess :=
  (exec_eq_guarded_commandEffect i s).trans (guarded_pass h)

/-- The checks pass exactly when every setting is legal and every later check holds. -/
theorem commandChecks_pass_iff {i : Instr} {s : State} :
    firstFailure (commandChecks s i) = none
      ↔ (∀ b ∈ configChecks s i, b = true) ∧ ∀ c ∈ laterChecks s i, c.1 = true := by
  simp only [firstFailure_eq_none, commandChecks, configThen, List.mem_append, List.mem_map, or_imp, forall_and,
    forall_exists_index, and_imp, forall_apply_eq_imp_iff₂]

/-! ### How a command ends (R281 to R283) -/

/-- The error recorded is that of one of the checks. -/
theorem exists_mem_of_firstFailure_eq_some {cs : List (Bool × CmdError)} {e : CmdError}
    (h : firstFailure cs = some e) : ∃ c ∈ cs, c.2 = e := by
  obtain ⟨before, after, rfl, -⟩ := firstFailure_eq_some h
  exact ⟨(false, e), by simp, rfl⟩

/-- Every check of a command raises an error of the command's row of the table of R282. -/
theorem code_mem_raisableCodes (s : State) (i : Instr) :
    ∀ c ∈ commandChecks s i, c.2.code.toNat ∈ RaisableCodes i := by
  cases i <;> simp [commandChecks, configThen, configChecks, laterChecks, RaisableCodes, CmdError.code]

theorem CmdError.one_le_code (e : CmdError) : 1 ≤ e.code.toNat := by cases e <;> decide

/-- The end of a command that R283 allows: success recorded, or an error of code 1 to 6. -/
def RecordsEnd (t : State) : Prop :=
  (t.err = false ∧ t.ecode = 0) ∨ (t.err = true ∧ 1 ≤ t.ecode.toNat ∧ t.ecode.toNat ≤ 6)

theorem recordsEnd_recordSuccess (s : State) : RecordsEnd s.recordSuccess :=
  .inl ⟨recordSuccess_err s, recordSuccess_ecode s⟩

theorem recordsEnd_recordError (s : State) (e : CmdError) : RecordsEnd (s.recordError e) :=
  .inr ⟨recordError_err s e, e.one_le_code, e.code_le⟩

theorem exec_recordsEnd (i : Instr) (s : State) : ∃ t, exec i s = .next t ∧ RecordsEnd t := by
  rw [exec_eq_guarded_commandEffect]
  cases hc : firstFailure (commandChecks s i) with
  | some e => exact ⟨_, guarded_fail hc, recordsEnd_recordError s e⟩
  | none => exact ⟨_, guarded_pass hc, recordsEnd_recordSuccess _⟩

/-- A word runs the command it decodes to, or raises ILLEGAL. -/
theorem runCommand_eq_exec_or_illegal (w : CmdWord) (s : State) :
    (∃ i, decode w = .ok i ∧ runCommand w s = exec i s) ∨ runCommand w s = .next (s.recordError .illegal) := by
  by_cases hd : ∃ i, decode w = .ok i
  · obtain ⟨i, hi⟩ := hd
    exact .inl ⟨i, hi, runCommand_of_decode hi s⟩
  · exact .inr (runCommand_of_not_decode (not_exists.mp hd) s)

theorem runCommand_recordsEnd (w : CmdWord) (s : State) : ∃ t, runCommand w s = .next t ∧ RecordsEnd t := by
  rcases runCommand_eq_exec_or_illegal w s with ⟨i, -, heq⟩ | heq
  · rw [heq]
    exact exec_recordsEnd i s
  · exact ⟨_, heq, recordsEnd_recordError s .illegal⟩

/-! ### What an effect leaves alone (R61) -/

/-- What no command writes: the host's registers, and what the model keeps beside the registers. -/
def SameHostSide (s t : State) : Prop :=
  SameConfiguration s t ∧ t.params = s.params ∧ t.resetCount = s.resetCount ∧ t.hostQueue = s.hostQueue
    ∧ t.response = s.response

/-- Every effect is made of updates of other parts of the state. -/
theorem sameHostSide_commandEffect (i : Instr) (s : State) : SameHostSide s (commandEffect i s) := by
  cases i <;> simp [SameHostSide, SameConfiguration, commandEffect, sampleEffect, sweepEffect, spectrumEffect,
    hoverEffect, packInto]

theorem exec_sameHostSide {i : Instr} {s t : State} (h : exec i s = .next t) : SameHostSide s t := by
  rcases exec_next_cases h with ⟨e, -, rfl⟩ | ⟨-, rfl⟩
  · simp [SameHostSide, SameConfiguration]
  · exact sameHostSide_commandEffect i s

/-- The commands that store a result in RES0, RES1 or RESI (R61). -/
def writesResults : Instr → Bool
  | .sinc | .rcos | .getsym | .sample _ _ | .iqpoint _ | .noise | .dbscalar | .hover => true
  | _ => false

theorem writesResults_iff {i : Instr} :
    writesResults i = true ↔ i ∈ [Instr.sinc, .rcos, .getsym, .noise, .dbscalar, .hover]
      ∨ (∃ im nz, i = .sample im nz) ∨ ∃ nz, i = .iqpoint nz := by
  cases i <;> simp [writesResults]

theorem commandEffect_results {i : Instr} (h : writesResults i = false) (s : State) :
    (commandEffect i s).res0 = s.res0 ∧ (commandEffect i s).res1 = s.res1 ∧ (commandEffect i s).resi = s.resi := by
  cases i with
  | sinc | rcos | getsym | sample | iqpoint | noise | dbscalar | hover => simp [writesResults] at h
  | _ => simp [commandEffect, sweepEffect, spectrumEffect, packInto]

theorem commandEffect_mapping {i : Instr} (h : latchesMapping i = false) (s : State) :
    (commandEffect i s).maxDb = s.maxDb ∧ (commandEffect i s).freqPerBin = s.freqPerBin
      ∧ (commandEffect i s).binRange = s.binRange ∧ (commandEffect i s).specValid = s.specValid := by
  cases i with
  | binmap | spectrum => simp [latchesMapping] at h
  | _ => simp [commandEffect, sampleEffect, sweepEffect, hoverEffect, packInto]

/-- PHASE is kept by every effect but those of SWEEP and, under FSK, SAMPLE (R171). -/
theorem commandEffect_phase {i : Instr} {s : State} (hsample : ∀ im nz, i = .sample im nz → modKind s ≠ .fsk)
    (hsweep : ∀ im nz pr, i ≠ .sweep im nz pr) : (commandEffect i s).phase = s.phase := by
  cases i with
  | sample im nz => exact if_neg (hsample im nz rfl)
  | sweep im nz pr => exact absurd rfl (hsweep im nz pr)
  | _ => simp [commandEffect, spectrumEffect, hoverEffect, packInto]

/-! ### The draws of an effect (R202, R203) -/

theorem addNoise_drawPos (s : State) (y : F64) (pos : Nat) :
    (addNoise s y pos).2 = pos + (if noiseOn s then 2 else 0) := withNoise_drawPos s true y pos

theorem iqOutput_drawPos (s : State) (nz : Bool) :
    (iqOutput s nz).2 = s.drawPos + (if nz && noiseOn s then 4 else 0) := by
  by_cases h : nz = true ∧ noiseOn s = true
  · rw [iqOutput_of_noisy h, addIqNoise_of_on h.2]
    simp [h]
  · rw [iqOutput_of_not_noisy h]
    simp [h]

@[simp] theorem sampleTimes_length (s : State) (t0 : F64) (n : Nat) : (sampleTimes s t0 n).length = n := by
  simp [sampleTimes]

/-- SPECTRUM's block draws as a sweep of `N` samples does, and not at all for an empty message. -/
theorem spectrumBlock_drawPos (s : State) (nz : Bool) :
    (spectrumBlock s nz).drawPos =
      s.drawPos + (if nz && noiseOn s && symbolCount s != 0 then 2 * s.fftSize.toNat else 0) := by
  by_cases hmsg : symbolCount s = 0
  · simp [spectrumBlock, hmsg]
  · cases hn : (nz && noiseOn s) <;>
      simp [spectrumBlock, hmsg, synthBlock_drawPos, hn, spectrumTimes, fftLength]

/-- The draws of each effect are those of its samples. -/
theorem commandEffect_drawPos (i : Instr) (s : State) :
    (commandEffect i s).drawPos = s.drawPos + DrawsOf s i := by
  cases i with
  | sample im nz => exact withNoise_drawPos s nz _ _
  | sweep im nz pr =>
    refine (synthBlock_drawPos s im nz _ _ _).trans ?_
    cases hn : (nz && noiseOn s) <;> simp [DrawsOf, hn]
  | iqpoint nz => exact iqOutput_drawPos s nz
  | noise => exact addNoise_drawPos s _ _
  | spectrum nz => exact spectrumBlock_drawPos s nz
  | _ => rfl

end Sys2Proof.Machine

namespace Sys2Proof.Claims

open Sys2Proof Sys2Proof.Machine

/-- Settles O16: a command word runs a command or is ILLEGAL, and either end records success or an error. -/
theorem commandRecordsItsEnd : Obligations.CommandRecordsItsEnd := runCommand_recordsEnd

/-- Settles O18: the error recorded is that of one of the command's checks. -/
theorem commandRaisesOnlyItsErrors : Obligations.CommandRaisesOnlyItsErrors := by
  intro i s t h herr
  rcases exec_next_cases h with ⟨e, hfail, rfl⟩ | ⟨-, rfl⟩
  · obtain ⟨c, hc, rfl⟩ := exists_mem_of_firstFailure_eq_some hfail
    exact code_mem_raisableCodes s i c hc
  · simp at herr

/-- Settles O19: a failed check writes only STATUS, and each effect writes only its own registers. -/
theorem commandsWriteOnlyTheirRegisters : Obligations.CommandsWriteOnlyTheirRegisters := by
  intro i s t h
  refine ⟨exec_sameHostSide h, ?results, ?mapping⟩
  case results =>
    rw [← writesResults_iff, or_iff_not_imp_right, Bool.not_eq_true]
    intro hi
    rcases exec_next_cases h with ⟨e, -, rfl⟩ | ⟨-, rfl⟩
    · exact ⟨rfl, rfl, rfl⟩
    · exact commandEffect_results hi s
  case mapping =>
    rw [← latchesMapping_iff, or_iff_not_imp_right, Bool.not_eq_true]
    intro hi
    rcases exec_next_cases h with ⟨e, -, rfl⟩ | ⟨-, rfl⟩
    · exact ⟨rfl, rfl, rfl, rfl⟩
    · exact commandEffect_mapping hi s

/-- Settles O20: a failed check keeps PHASE, and so does every effect but those named. -/
theorem onlySampleAndSweepWritePhase : Obligations.OnlySampleAndSweepWritePhase := by
  intro i s t h ⟨hsample, hsweep⟩
  rcases exec_next_cases h with ⟨e, -, rfl⟩ | ⟨-, rfl⟩
  · rfl
  · exact commandEffect_phase hsample hsweep

/-- Settles O23: a failed check draws nothing, and each effect draws for its samples. -/
theorem commandsTakeTheirDraws : Obligations.CommandsTakeTheirDraws := by
  intro i s t h
  rcases exec_next_cases h with ⟨e, -, rfl⟩ | ⟨-, rfl⟩
  · rfl
  · exact commandEffect_drawPos i s

end Sys2Proof.Claims
end

section
/-!
PROOFS. The bytes of memory each command's effect writes (spec/30_encoding.md R106): none outside its ranges, and
with the checks passed all of them backed by storage (spec/20_memory.md R71).
-/

namespace Sys2Proof.Machine

open Sys2Proof.Claims

/-! ### Two states that differ only within a range of bytes -/

/-- Outside the addresses `W`, every byte reads in `t` as in `s` and the memory of `t` lists no new address. -/
structure WritesOnly (W : Nat → Prop) (s t : State) : Prop where
  /-- A byte outside reads as before. -/
  readByte_eq : ∀ a, ¬ W a → readByte t a = readByte s a
  /-- A listed address is inside or was listed before. -/
  mem_of_mem : ∀ c ∈ t.mem, W c.1 ∨ c ∈ s.mem
  /-- The canonical form is kept. -/
  memWf : Memory.wf s.mem → Memory.wf t.mem

namespace WritesOnly

variable {W W' : Nat → Prop} {s t u : State}

/-- An update of anything but the memory writes nowhere. -/
theorem of_mem_eq (hmem : t.mem = s.mem) (hreset : t.resetCount = s.resetCount) : WritesOnly W s t where
  readByte_eq a _ := by simp only [readByte, hmem, hreset]
  mem_of_mem c hc := .inr (hmem ▸ hc)
  memWf h := hmem ▸ h

theorem mono (h : WritesOnly W s t) (hW : ∀ a, W a → W' a) : WritesOnly W' s t where
  readByte_eq a ha := h.readByte_eq a (mt (hW a) ha)
  mem_of_mem c hc := (h.mem_of_mem c hc).imp_left (hW c.1)
  memWf := h.memWf

theorem trans (h : WritesOnly W s t) (h' : WritesOnly W t u) : WritesOnly W s u where
  readByte_eq a ha := (h'.readByte_eq a ha).trans (h.readByte_eq a ha)
  mem_of_mem c hc := (h'.mem_of_mem c hc).elim .inl (h.mem_of_mem c)
  memWf hs := h'.memWf (h.memWf hs)

/-- A write of bytes writes only at their addresses. -/
theorem writeBytes (s : State) (a : Nat) (bs : List Byte) :
    WritesOnly (Within a bs.length) s (s.setMem (Memory.writeBytes s.mem a bs)) where
  readByte_eq a' ha := readByte_writeBytes_outside s a bs (by simp only [Within] at ha; omega)
  mem_of_mem _ hc := Memory.mem_writeBytes hc
  memWf h := Memory.wf_writeBytes h a bs

theorem writeElements (s : State) (r : Region) (xs : List F64) :
    WritesOnly (Within r.base (8 * xs.length)) s (writeElements s r xs) := by
  rw [← elementBytes_length xs]
  exact writeBytes s r.base _

theorem memWrite (s : State) (a n : Nat) (v : Word) : WritesOnly (Within a n) s (memWrite s a n v) := by
  have h := writeBytes s a (leBytes n v.toNat)
  rwa [leBytes_length] at h

end WritesOnly

/-! ### The effects that write memory -/

theorem writesOnly_windowInto (s : State) {xs : List F64} {n : Nat} (hn : xs.length = n) :
    WritesOnly (fun a => Within 0x100000 (8 * n) a ∨ Within 0x180000 (8 * n) a) s (windowInto s xs) := by
  subst hn
  have him := WritesOnly.writeElements s .im (List.replicate xs.length fZero)
  have hre := WritesOnly.writeElements (writeElements s .im (List.replicate xs.length fZero)) .re (applyWindow s xs)
  simp only [List.length_replicate, applyWindow_length] at him hre
  exact (him.mono fun _ => .inr).trans (hre.mono fun _ => .inl)

/-- What RE and IM become under FFT (R226). -/
def transformed (s : State) : List (F64 × F64) :=
  fftTransform (fftLength s) ((readElements s .re (fftLength s)).zip (readElements s .im (fftLength s)))

@[simp] theorem transformed_length (s : State) : (transformed s).length = fftLength s := by
  simp [transformed]

theorem transformBuffers_eq (s : State) :
    transformBuffers s =
      writeElements (writeElements s .re ((transformed s).map Prod.fst)) .im ((transformed s).map Prod.snd) := rfl

theorem writesOnly_transformBuffers (s : State) :
    WritesOnly (fun a => Within 0x100000 (8 * fftLength s) a ∨ Within 0x180000 (8 * fftLength s) a) s
      (transformBuffers s) := by
  have hre := WritesOnly.writeElements s .re ((transformed s).map Prod.fst)
  have him := WritesOnly.writeElements (writeElements s .re ((transformed s).map Prod.fst)) .im
    ((transformed s).map Prod.snd)
  simp only [List.length_map, transformed_length] at him hre
  rw [transformBuffers_eq]
  exact (hre.mono fun _ => .inl).trans (him.mono fun _ => .inr)

theorem writesOnly_fillPsd (s : State) : WritesOnly (Within 0x200000 (8 * halfLength s)) s (fillPsd s) := by
  have h := WritesOnly.writeElements s .psd
    ((List.range (halfLength s)).map (fun i => powerDb s (readElement s .re i) (readElement s .im i)))
  rwa [List.length_map, List.length_range] at h

theorem writesOnly_packInto (s : State) (xs : List F64) :
    WritesOnly (Within 0x240000 (4 * xs.length)) s (packInto s xs) := by
  rw [← packBytes_length xs]
  exact WritesOnly.writeBytes s (Region.base .xbuf) _

@[simp] theorem sweepBlock_length (s : State) (im : IndexMode) (nz pr : Bool) :
    (sweepBlock s im nz pr).samples.length = s.count.toNat := by
  simp [sweepBlock, synthBlock_length]

/-- SPECTRUM's block has `N` samples, with or without a message. -/
@[simp] theorem spectrumBlock_length (s : State) (nz : Bool) : (spectrumBlock s nz).samples.length = fftLength s := by
  unfold spectrumBlock
  split
  · simp
  · simp [synthBlock_length, spectrumTimes]

/-- SPECTRUM up to its transform: the windowed block with its draws taken. -/
def windowedSpectrum (nz : Bool) (s : State) : State :=
  (windowInto s (spectrumBlock s nz).samples).setDrawPos (spectrumBlock s nz).drawPos

@[simp] theorem windowedSpectrum_fftSize (nz : Bool) (s : State) : (windowedSpectrum nz s).fftSize = s.fftSize := by
  simp [windowedSpectrum]

theorem spectrumEffect_eq (nz : Bool) (s : State) :
    spectrumEffect nz s = latchVisible (fillPsd (transformBuffers (windowedSpectrum nz s))) := rfl

/-- SPECTRUM writes where WINDOW, FFT and POWER do. -/
theorem writesOnly_spectrumEffect (nz : Bool) (s : State) :
    WritesOnly (StoresTo s (.spectrum nz)) s (spectrumEffect nz s) := by
  have hwindow : WritesOnly (StoresTo s (.spectrum nz)) s (windowedSpectrum nz s) :=
    ((writesOnly_windowInto s (spectrumBlock_length s nz)).mono fun _ h => h.imp_right Or.inl).trans
      (.of_mem_eq (setDrawPos_mem _ _) (setDrawPos_resetCount _ _))
  have hfft := writesOnly_transformBuffers (windowedSpectrum nz s)
  rw [fftLength, windowedSpectrum_fftSize] at hfft
  have hpsd := writesOnly_fillPsd (transformBuffers (windowedSpectrum nz s))
  rw [halfLength, fftLength, transformBuffers_fftSize, windowedSpectrum_fftSize] at hpsd
  have hlatch : WritesOnly (StoresTo s (.spectrum nz)) (fillPsd (transformBuffers (windowedSpectrum nz s)))
      (spectrumEffect nz s) := .of_mem_eq (latchVisible_mem _) (latchVisible_resetCount _)
  exact ((hwindow.trans (hfft.mono fun _ h => h.imp_right Or.inl)).trans
    (hpsd.mono fun _ h => Or.inr (Or.inr h))).trans hlatch

/-- Every effect writes only the bytes its command stores to (R106). -/
theorem writesOnly_commandEffect (i : Instr) (s : State) : WritesOnly (StoresTo s i) s (commandEffect i s) := by
  cases i with
  | sweep im nz pr =>
    have h := WritesOnly.writeElements s .re (sweepBlock s im nz pr).samples
    rw [sweepBlock_length] at h
    exact h.trans (.of_mem_eq (by simp [commandEffect, sweepEffect]) (by simp [commandEffect, sweepEffect]))
  | window => exact writesOnly_windowInto s (readElements_length _ _ _)
  | fft => exact writesOnly_transformBuffers s
  | power => exact writesOnly_fillPsd s
  | spectrum nz => exact writesOnly_spectrumEffect nz s
  | pack32 =>
    have h := writesOnly_packInto s (readElements s .re s.count.toNat)
    rwa [readElements_length] at h
  | _ =>
    refine .of_mem_eq ?_ ?_ <;> simp [commandEffect, sampleEffect, hoverEffect]

/-! ### The bytes stored to are backed by storage -/

theorem isStorage_of_within {p : Config.Params} {r : Region} {n a : Nat} (hr : r ∈ Region.memories)
    (hn : n ≤ r.size p) (h : Within r.base n a) : isStorage p a = true := by
  obtain ⟨hlo, hhi⟩ := h
  rw [isStorage, List.any_eq_true]
  exact ⟨r, hr, by simp only [Bool.and_eq_true, decide_eq_true_eq]; omega⟩

/-- The checks that bound a command's stores: COUNT for SWEEP and PACK32, the size for the spectral commands. -/
theorem isStorage_of_storesTo {i : Instr} {s : State} (hpass : firstFailure (commandChecks s i) = none) {a : Nat}
    (h : StoresTo s i a) : isStorage s.params a = true := by
  obtain ⟨-, hlater⟩ := commandChecks_pass_iff.mp hpass
  have hfft : vFftCap s = true → Within 0x100000 (8 * s.fftSize.toNat) a ∨ Within 0x180000 (8 * s.fftSize.toNat) a →
      isStorage s.params a = true := fun hcap h => by
    have hcap := vFftCap_iff.mp hcap
    rcases h with h | h
    · exact isStorage_of_within (r := .re) (by decide) (Nat.mul_le_mul_left 8 hcap) h
    · exact isStorage_of_within (r := .im) (by decide) (Nat.mul_le_mul_left 8 hcap) h
  have hpsd : vFftCap s = true → Within 0x200000 (8 * (s.fftSize.toNat / 2)) a → isStorage s.params a = true :=
    fun hcap => isStorage_of_within (r := .psd) (by decide)
      (Nat.mul_le_mul_left 8 (Nat.div_le_div_right (vFftCap_iff.mp hcap)))
  cases i with
  | sweep im nz pr =>
    have hcount : vCount s = true := hlater (vCount s, .alloc) (by simp [laterChecks])
    exact isStorage_of_within (r := .re) (by decide) (Nat.mul_le_mul_left 8 (vCount_iff.mp hcount)) h
  | pack32 =>
    have hcount : vCount s = true := hlater (vCount s, .alloc) (by simp [laterChecks])
    exact isStorage_of_within (r := .xbuf) (by decide) (Nat.mul_le_mul_left 4 (vCount_iff.mp hcount)) h
  | window => exact hfft (hlater (vFftCap s, .alloc) (by simp [laterChecks])) h
  | fft => exact hfft (hlater (vFftCap s, .alloc) (by simp [laterChecks])) h
  | power => exact hpsd (hlater (vFftCap s, .alloc) (by simp [laterChecks])) h
  | spectrum nz =>
    have hcap : vFftCap s = true := hlater (vFftCap s, .alloc) (by simp [laterChecks])
    rcases h with h | h | h
    · exact hfft hcap (.inl h)
    · exact hfft hcap (.inr h)
    · exact hpsd hcap h
  | _ => exact h.elim

end Sys2Proof.Machine

namespace Sys2Proof.Claims

open Sys2Proof Sys2Proof.Machine

/-- Settles O21: a failed check writes no memory, and each effect only the command's ranges. -/
theorem commandsStoreOnlyToTheirRanges : Obligations.CommandsStoreOnlyToTheirRanges := by
  intro i s t h a ha
  rcases exec_next_cases h with ⟨e, -, rfl⟩ | ⟨-, rfl⟩
  · rfl
  · exact (writesOnly_commandEffect i s).readByte_eq a (ha.resolve_right (by simp))

end Sys2Proof.Claims
end

section
/-!
PROOFS. The frequency mapping and its peak (spec/44_spectral.md R231 to R236), and BINMAP.
-/

namespace Sys2Proof.Machine

open Sys2Proof.Claims

/-! ### The visible range (R232 to R234) -/

/-- The model's clamps, bin indices and widening are those of the rules written out. -/
theorem visibleBins_eq_visibleRange (s : State) : visibleBins s = visibleRange s := rfl

/-- A widened range holds a bin and lies inside the half spectrum, wherever its ends were. -/
theorem widen_legal {sb eb half : Nat} (h : 1 ≤ half) :
    (widen sb eb half).1 < (widen sb eb half).2 ∧ (widen sb eb half).2 ≤ half := by
  simp only [widen]
  by_cases heb : eb ≤ sb <;> simp only [heb, if_true, if_false] <;> split <;> dsimp only <;> omega

theorem visibleBins_legal {s : State} (h : 1 ≤ halfLength s) :
    (visibleBins s).1 < (visibleBins s).2 ∧ (visibleBins s).2 ≤ halfLength s := widen_legal h

/-- A legal size leaves at least one bin, and no more than PSD holds. -/
theorem halfLength_bounds {s : State} (hsize : PowerOfTwoSize s.fftSize.toNat) (hcap : vFftCap s = true) :
    1 ≤ halfLength s ∧ halfLength s ≤ s.params.nMax / 2 := by
  obtain ⟨m, hm, hN⟩ := hsize
  refine ⟨?_, Nat.div_le_div_right (vFftCap_iff.mp hcap)⟩
  have h2 : 2 ≤ s.fftSize.toNat := hN ▸ Nat.le_self_pow (Nat.one_le_iff_ne_zero.mp hm) 2
  exact Nat.div_le_div_right (c := 2) h2

/-- The two halves of BINRANGE (R236). -/
theorem packRange_extract (r : Nat × Nat) :
    (packRange r).extractLsb' 0 32 = BitVec.ofNat 32 r.1 ∧ (packRange r).extractLsb' 32 32 = BitVec.ofNat 32 r.2 := by
  constructor <;> apply BitVec.eq_of_getLsbD_eq <;> intro k hk
  all_goals
    simp only [packRange, BitVec.getLsbD_extractLsb', BitVec.getLsbD_append, hk, decide_true, Bool.true_and]
    simp [hk]

/-! ### The peak (R235) -/

theorem flt_iff {a b : F64} : flt a b = true ↔ isNaN a = false ∧ isNaN b = false ∧ fKey a < fKey b := by
  simp only [flt, Bool.and_eq_true, Bool.not_eq_true', decide_eq_true_eq, and_assoc]

theorem flt_eq_false_iff {a b : F64} : flt a b = false ↔ (isNaN a = false → isNaN b = false → fKey b ≤ fKey a) := by
  rw [← Bool.not_eq_true, flt_iff]
  simp only [not_and, not_lt]

theorem flt_self (a : F64) : flt a a = false := flt_eq_false_iff.mpr fun _ _ => le_rfl

/-- Not being below is transitive through a value that is not a NaN. -/
theorem flt_eq_false_trans {a b c : F64} (hb : isNaN b = false) (hab : flt a b = false) (hbc : flt b c = false) :
    flt a c = false := by
  rw [flt_eq_false_iff] at *
  exact fun ha hc => (hbc hb hc).trans (hab ha hb)

/-- The peak so far after one more element. -/
def peakStep (s : State) (mx : F64) (i : Nat) : F64 :=
  if flt mx (readElement s .psd i) then readElement s .psd i else mx

theorem peakFrom_succ (s : State) (n i : Nat) (mx : F64) :
    peakFrom s (n + 1) i mx = peakFrom s n (i + 1) (peakStep s mx (i + 1)) := rfl

/-- One step keeps a peak that is not a NaN so, and the new peak is below neither the old one nor the element. -/
theorem peakStep_spec {s : State} {mx : F64} (h : isNaN mx = false) (i : Nat) :
    isNaN (peakStep s mx i) = false ∧ flt (peakStep s mx i) mx = false
      ∧ flt (peakStep s mx i) (readElement s .psd i) = false := by
  unfold peakStep
  split
  next hlt =>
    obtain ⟨-, hx, hkey⟩ := flt_iff.mp hlt
    exact ⟨hx, flt_eq_false_iff.mpr fun _ _ => hkey.le, flt_self _⟩
  next hlt => exact ⟨h, flt_self _, Bool.not_eq_true _ ▸ hlt⟩

/-- Nothing is above a NaN, so a peak that starts as a NaN stays it. -/
theorem peakFrom_of_isNaN {s : State} {mx : F64} (h : isNaN mx = true) (n i : Nat) : peakFrom s n i mx = mx := by
  induction n generalizing i with
  | zero => rfl
  | succ n ih =>
    have hstep : peakStep s mx (i + 1) = mx := if_neg (by simp [flt, h])
    rw [peakFrom_succ, hstep, ih]

/-- The peak is below neither where it started nor any element it went over. -/
theorem not_peakFrom_flt {s : State} {mx : F64} (h : isNaN mx = false) (n i : Nat) :
    flt (peakFrom s n i mx) mx = false
      ∧ ∀ k, i < k → k ≤ i + n → flt (peakFrom s n i mx) (readElement s .psd k) = false := by
  induction n generalizing i mx with
  | zero => exact ⟨flt_self mx, fun k hlo hhi => by omega⟩
  | succ n ih =>
    obtain ⟨hnan, hmx, hx⟩ := peakStep_spec (s := s) h (i + 1)
    obtain ⟨hstart, hrest⟩ := ih hnan (i + 1)
    rw [peakFrom_succ]
    refine ⟨flt_eq_false_trans hnan hstart hmx, fun k hlo hhi => ?_⟩
    rcases Nat.lt_or_ge (i + 1) k with hk | hk
    · exact hrest k hk (by omega)
    · obtain rfl : k = i + 1 := by omega
      exact flt_eq_false_trans hnan hstart hx

/-- The peak is where it started or one of the elements it went over. -/
theorem peakFrom_mem (s : State) (n i : Nat) (mx : F64) :
    peakFrom s n i mx = mx ∨ ∃ k, i < k ∧ k ≤ i + n ∧ peakFrom s n i mx = readElement s .psd k := by
  induction n generalizing i mx with
  | zero => exact .inl rfl
  | succ n ih =>
    rw [peakFrom_succ]
    rcases ih (i + 1) (peakStep s mx (i + 1)) with hkeep | ⟨k, hlo, hhi, hk⟩
    · rw [hkeep, peakStep]
      split
      · exact .inr ⟨i + 1, by omega, by omega, rfl⟩
      · exact .inl rfl
    · exact .inr ⟨k, by omega, by omega, hk⟩

/-- The recursion of the peak is the fold over the further elements. -/
theorem peakFrom_eq_foldl (s : State) (n i : Nat) (mx : F64) :
    peakFrom s n i mx = (List.range n).foldl (fun mx j => peakStep s mx (i + 1 + j)) mx := by
  induction n generalizing i mx with
  | zero => rfl
  | succ n ih =>
    have hshift : ∀ j, i + 1 + 1 + j = i + 1 + (j + 1) := fun j => by omega
    simp only [peakFrom_succ, ih, List.range_succ_eq_map, List.foldl_cons, List.foldl_map, Nat.add_zero, hshift,
      Nat.succ_eq_add_one]

theorem peak_eq_peakOver (s : State) (sb eb : Nat) : peak s sb eb = peakOver s sb eb :=
  peakFrom_eq_foldl s _ _ _

/-! ### BINMAP -/

/-- Latching the visible range writes the mapping as the rules give it, and nothing else (R236). -/
theorem latchVisible_eq (s : State) :
    latchVisible s = { s with
      freqPerBin := widthOfBins s
      binRange := BitVec.ofNat 32 (visibleRange s).2 ++ BitVec.ofNat 32 (visibleRange s).1
      maxDb := peakOver s (visibleRange s).1 (visibleRange s).2
      specValid := true } := by
  rw [latchVisible, visibleBins_eq_visibleRange, peak_eq_peakOver]
  rfl

theorem exec_binmap_of_legal {s : State} (hn : LegalFftSize s) (hmap : vMap s = true) :
    exec .binmap s = .next (latchVisible s).recordSuccess := by
  obtain ⟨hpow2, hcap⟩ := hn
  exact exec_of_passes (i := .binmap) (commandChecks_pass_iff.mpr
    ⟨by simp [configChecks, vFftPow2_iff.mpr hpow2, hmap], by simp [laterChecks, vFftCap_iff.mpr hcap]⟩)

end Sys2Proof.Machine

namespace Sys2Proof.Claims

open Sys2Proof Sys2Proof.Machine

/-- Settles O52: the two ranges are one, and widening makes any range legal. -/
theorem visibleRangeIsLegal : Obligations.VisibleRangeIsLegal :=
  fun s h => ⟨visibleBins_eq_visibleRange s, visibleBins_legal h⟩

/-- Settles O53, by induction on the elements the peak goes over. -/
theorem peakIsGreatestBin : Obligations.PeakIsGreatestBin := by
  intro s sb eb hlt
  refine ⟨?member, fun hnan => peakFrom_of_isNaN hnan _ _, fun hnan i hlo hhi => ?greatest⟩
  case member =>
    rcases peakFrom_mem s (eb - sb - 1) sb (readElement s .psd sb) with hk | ⟨k, hlo, hhi, hk⟩
    · exact ⟨sb, le_rfl, hlt, hk⟩
    · exact ⟨k, hlo.le, by omega, hk⟩
  case greatest =>
    obtain ⟨hstart, hrest⟩ := not_peakFrom_flt hnan (eb - sb - 1) sb
    rcases Nat.eq_or_lt_of_le hlo with rfl | hlo
    · exact hstart
    · exact hrest i hlo (by omega)

/-- Settles O54: the checks pass, and the mapping latched is the one the rules give. -/
theorem binmapResult : Obligations.BinmapResult := by
  intro s hn hmap
  rw [exec_binmap_of_legal hn hmap, latchVisible_eq]
  rfl

end Sys2Proof.Claims
end

section
/-!
PROOFS. What every step keeps: the invariant (from reset on), the parameters, the draws taken and the order of the
host's accesses; and the step of a reset (spec/70_reset_and_hazards.md R310 to R313, spec/60_exceptions.md R287).
-/

namespace Sys2Proof.Machine

open Sys2Proof.Claims

/-! ### The invariant and updates of the state -/

/-- The invariant speaks of the memory, STATUS, BINRANGE and the parameters only. -/
theorem State.Inv.congr {s t : State} (h : s.Inv) (hmem : t.mem = s.mem) (hparams : t.params = s.params)
    (herr : t.err = s.err) (hecode : t.ecode = s.ecode) (hvalid : t.specValid = s.specValid)
    (hrange : t.binRange = s.binRange) : t.Inv where
  memWf := hmem ▸ h.memWf
  memMapped := hmem ▸ hparams ▸ h.memMapped
  ecodeLegal := hecode ▸ h.ecodeLegal
  errIffEcode := by rw [herr, hecode]; exact h.errIffEcode
  rangeLegal := by
    simp only [startBin, endBin, hvalid, hrange, hparams]
    exact h.rangeLegal

theorem reset_inv : State.reset.Inv where
  memWf := reset_memWf
  memMapped := by simp [State.reset]
  ecodeLegal := by decide
  errIffEcode := by decide
  rangeLegal := by simp [State.reset]

theorem resetBlock_inv (s : State) : (resetBlock s).Inv where
  memWf := resetBlock_memWf s
  memMapped := by simp [State.reset]
  ecodeLegal := reset_inv.ecodeLegal
  errIffEcode := reset_inv.errIffEcode
  rangeLegal := by simp [State.reset]

theorem State.Inv.recordError {s : State} (h : s.Inv) (e : CmdError) : (s.recordError e).Inv where
  memWf := h.memWf
  memMapped := h.memMapped
  ecodeLegal := e.code_le
  errIffEcode := by simpa using e.code_ne_zero
  rangeLegal := h.rangeLegal

/-- A range latched from a legal size is one bin or more inside the PSD buffer, and its ends fit BINRANGE's halves. -/
theorem packRange_visibleBins_legal {s : State} (hsize : PowerOfTwoSize s.fftSize.toNat) (hcap : vFftCap s = true) :
    ((packRange (visibleBins s)).extractLsb' 0 32).toNat < ((packRange (visibleBins s)).extractLsb' 32 32).toNat
      ∧ ((packRange (visibleBins s)).extractLsb' 32 32).toNat ≤ s.params.nMax / 2 := by
  obtain ⟨hhalf, hmax⟩ := halfLength_bounds hsize hcap
  obtain ⟨hlt, hle⟩ := visibleBins_legal hhalf
  have hN := s.fftSize.isLt
  have hfit : halfLength s < 2 ^ 32 := lt_of_le_of_lt (Nat.div_le_self _ _) hN
  obtain ⟨hlo, hhi⟩ := packRange_extract (visibleBins s)
  rw [hlo, hhi, BitVec.toNat_ofNat, BitVec.toNat_ofNat, Nat.mod_eq_of_lt (by omega), Nat.mod_eq_of_lt (by omega)]
  exact ⟨hlt, hle.trans hmax⟩

/-- The mapping after an effect: kept, or latched from a legal size. -/
theorem commandEffect_rangeLegal {i : Instr} {s : State} (h : s.Inv)
    (hpass : firstFailure (commandChecks s i) = none) (hvalid : (commandEffect i s).specValid = true) :
    startBin (commandEffect i s) < endBin (commandEffect i s)
      ∧ endBin (commandEffect i s) ≤ s.params.nMax / 2 := by
  obtain ⟨hconfig, hlater⟩ := commandChecks_pass_iff.mp hpass
  cases hi : latchesMapping i with
  | false =>
    obtain ⟨-, -, hrange, hkeep⟩ := commandEffect_mapping hi s
    simp only [startBin, endBin, hrange]
    exact h.rangeLegal (hkeep ▸ hvalid)
  | true =>
    rcases latchesMapping_iff.mp hi with rfl | ⟨nz, rfl⟩
    · have hsize := vFftPow2_iff.mp (hconfig (vFftPow2 s) (by simp [configChecks]))
      have hcap := hlater (vFftCap s, .alloc) (by simp [laterChecks])
      simp only [startBin, endBin, commandEffect, latchVisible_binRange]
      exact packRange_visibleBins_legal hsize hcap
    · have hsize := vFftPow2_iff.mp (hconfig (vFftPow2 s) (by simp [configChecks]))
      have hcap := hlater (vFftCap s, .alloc) (by simp [laterChecks])
      have hN : (fillPsd (transformBuffers (windowedSpectrum nz s))).fftSize = s.fftSize := by simp
      have hparams : (fillPsd (transformBuffers (windowedSpectrum nz s))).params = s.params := by
        simp [windowedSpectrum]
      simp only [startBin, endBin, commandEffect, spectrumEffect_eq, latchVisible_binRange]
      generalize fillPsd (transformBuffers (windowedSpectrum nz s)) = u at hN hparams ⊢
      rw [← hparams]
      exact packRange_visibleBins_legal (hN ▸ hsize) (vFftCap_iff.mpr (hN ▸ hparams ▸ vFftCap_iff.mp hcap))

/-- An effect whose checks passed keeps the invariant, and so the command that records success after it. -/
theorem commandEffect_inv {i : Instr} {s : State} (h : s.Inv) (hpass : firstFailure (commandChecks s i) = none) :
    (commandEffect i s).recordSuccess.Inv where
  memWf := (writesOnly_commandEffect i s).memWf h.memWf
  memMapped c hc := by
    obtain ⟨-, hparams, -⟩ := sameHostSide_commandEffect i s
    rw [recordSuccess_params, hparams]
    rcases (writesOnly_commandEffect i s).mem_of_mem c hc with hstore | hold
    · exact isStorage_of_storesTo hpass hstore
    · exact h.memMapped c hold
  ecodeLegal := Nat.zero_le 6
  errIffEcode := by simp
  rangeLegal hvalid := by
    obtain ⟨-, hparams, -⟩ := sameHostSide_commandEffect i s
    rw [recordSuccess_params, hparams]
    exact commandEffect_rangeLegal h hpass hvalid

theorem exec_inv {i : Instr} {s t : State} (h : s.Inv) (hs : exec i s = .next t) : t.Inv := by
  rcases exec_next_cases hs with ⟨e, -, rfl⟩ | ⟨hpass, rfl⟩
  · exact h.recordError e
  · exact commandEffect_inv h hpass

theorem runCommand_inv {w : CmdWord} {s t : State} (h : s.Inv) (hs : runCommand w s = .next t) : t.Inv := by
  rcases runCommand_eq_exec_or_illegal w s with ⟨i, -, heq⟩ | heq <;> rw [heq] at hs
  · exact exec_inv h hs
  · cases hs
    exact h.recordError .illegal

/-! ### Accesses -/

theorem writeReg_inv {s : State} (h : s.Inv) (r : RegName) (v : Word) : (writeReg r v s).Inv := by
  cases r <;> exact h.congr rfl rfl rfl rfl rfl rfl

/-- A write that has a memory as its target stores only to that memory. -/
theorem memWrite_inv {s : State} (h : s.Inv) {addr : Addr} {w : AccessWidth} {r : Region}
    (ht : busTarget s.params addr w = .ok r) (hr : r ≠ .registers) (v : Word) :
    (memWrite s addr.toNat w.bytes v).Inv where
  memWf := memWrite_memWf h.memWf _ _ _
  memMapped c hc := by
    obtain ⟨-, hlo, hhi, -⟩ := busTarget_ok ht
    have hmemory : r ∈ Region.memories := by cases r <;> simp [Region.memories] at hr ⊢
    rcases (WritesOnly.memWrite s addr.toNat w.bytes v).mem_of_mem c hc with hin | hold
    · obtain ⟨hin1, hin2⟩ := hin
      exact isStorage_of_within (p := s.params) hmemory le_rfl ⟨by omega, by omega⟩
    · exact h.memMapped c hold
  ecodeLegal := h.ecodeLegal
  errIffEcode := h.errIffEcode
  rangeLegal := h.rangeLegal

theorem respond_inv {s : State} (h : s.Inv) (r : HostResponse) : (s.respond r).Inv := h.congr rfl rfl rfl rfl rfl rfl

theorem performAccess_inv {a : HostAccess} {s t : State} (h : s.Inv) (hs : performAccess a s = .next t) : t.Inv := by
  cases a with
  | read addr w =>
    rcases hostRead_cases (addr := addr) (w := w) (s := s) with ⟨v, -, heq⟩ | ⟨-, heq⟩ <;>
      cases heq.symm.trans hs <;> exact respond_inv h _
  | write addr w v =>
    rcases hostWrite_cases (addr := addr) (w := w) (v := v) (s := s) with
      heq | ⟨-, -, heq⟩ | ⟨r, -, -, -, heq⟩ | ⟨r, ht, hr, heq⟩
    · cases heq.symm.trans hs
      exact respond_inv h _
    · obtain ⟨u, hu, -⟩ := runCommand_recordsEnd (v.setWidth 32) s
      rw [hu] at heq
      cases heq.symm.trans hs
      exact respond_inv (runCommand_inv h hu) _
    · cases heq.symm.trans hs
      exact respond_inv (writeReg_inv h r v) _
    · cases heq.symm.trans hs
      exact respond_inv (memWrite_inv h ht hr v) _
  | reset =>
    cases hs
    exact respond_inv (resetBlock_inv s) _

/-! ### What an access keeps of the parameters, the draws and the host's accesses -/

/-- The parameters and the host's accesses are kept, and no draw is taken back. -/
structure KeepsOrder (s t : State) : Prop where
  params : t.params = s.params
  drawPos : s.drawPos ≤ t.drawPos
  hostQueue : t.hostQueue = s.hostQueue

theorem KeepsOrder.respond {s t : State} (h : KeepsOrder s t) (r : HostResponse) : KeepsOrder s (t.respond r) :=
  ⟨h.params, h.drawPos, h.hostQueue⟩

theorem KeepsOrder.refl (s : State) : KeepsOrder s s := ⟨rfl, le_rfl, rfl⟩

theorem exec_keepsOrder {i : Instr} {s t : State} (h : exec i s = .next t) : KeepsOrder s t := by
  obtain ⟨-, hparams, -, hqueue, -⟩ := exec_sameHostSide h
  refine ⟨hparams, ?_, hqueue⟩
  rcases exec_next_cases h with ⟨e, -, rfl⟩ | ⟨-, rfl⟩
  · exact le_rfl
  · exact (Nat.le_add_right _ _).trans_eq (commandEffect_drawPos i s).symm

theorem runCommand_keepsOrder {w : CmdWord} {s t : State} (h : runCommand w s = .next t) : KeepsOrder s t := by
  rcases runCommand_eq_exec_or_illegal w s with ⟨i, -, heq⟩ | heq <;> rw [heq] at h
  · exact exec_keepsOrder h
  · cases h
    exact ⟨rfl, le_rfl, rfl⟩

theorem writeReg_keepsOrder (r : RegName) (v : Word) (s : State) : KeepsOrder s (writeReg r v s) := by
  cases r <;> exact ⟨rfl, le_rfl, rfl⟩

/-- Every access answers a next state that keeps the order. -/
theorem performAccess_next (a : HostAccess) (s : State) : ∃ t, performAccess a s = .next t ∧ KeepsOrder s t := by
  cases a with
  | read addr w =>
    rcases hostRead_cases (addr := addr) (w := w) (s := s) with ⟨v, -, heq⟩ | ⟨-, heq⟩ <;>
      exact ⟨_, heq, (KeepsOrder.refl s).respond _⟩
  | write addr w v =>
    rcases hostWrite_cases (addr := addr) (w := w) (v := v) (s := s) with
      heq | ⟨-, -, heq⟩ | ⟨r, -, -, -, heq⟩ | ⟨r, -, -, heq⟩
    · exact ⟨_, heq, (KeepsOrder.refl s).respond _⟩
    · obtain ⟨u, hu, -⟩ := runCommand_recordsEnd (v.setWidth 32) s
      rw [hu] at heq
      exact ⟨_, heq, (runCommand_keepsOrder hu).respond _⟩
    · exact ⟨_, heq, (writeReg_keepsOrder r v s).respond _⟩
    · exact ⟨_, heq, rfl, le_rfl, rfl⟩
  | reset => exact ⟨_, rfl, rfl, le_rfl, rfl⟩

/-- Every byte after a reset is the free value of the next reset number (R312). -/
theorem readByte_resetBlock (s : State) (a : Nat) :
    readByte (resetBlock s) a = Config.unwrittenByte (s.resetCount + 1) a := rfl

end Sys2Proof.Machine

namespace Sys2Proof.Claims

open Sys2Proof Sys2Proof.Machine

/-- Settles O6: an idle step changes nothing, and every access answers a next state. -/
theorem everyStepCompletes : Obligations.EveryStepCompletes := by
  refine fun s => ⟨?_, step_idle⟩
  rcases step_cases s with ⟨-, heq⟩ | ⟨a, rest, -, heq⟩ <;> rw [heq]
  · exact ⟨s, rfl⟩
  · obtain ⟨t, ht, -⟩ := performAccess_next a { s with hostQueue := rest }
    exact ⟨t, ht⟩

/-- Settles O12: the step performs the reset access. -/
theorem resetStep : Obligations.ResetStep := fun s _ hq => ⟨step_access hq, readByte_resetBlock s⟩

/-- Settles O13. -/
theorem resetMeetsInvariant : Obligations.ResetMeetsInvariant := ⟨reset_inv, resetBlock_inv⟩

/-- Settles O14: an idle step changes nothing, and every access keeps the invariant. -/
theorem stepKeepsInvariant : Obligations.StepKeepsInvariant := by
  intro s t h hs
  rcases step_cases s with ⟨-, heq⟩ | ⟨a, rest, -, heq⟩ <;> rw [heq] at hs
  · cases hs
    exact h
  · exact performAccess_inv (s := { s with hostQueue := rest }) (h.congr rfl rfl rfl rfl rfl rfl) hs

/-- Settles O15: an idle step has no access to forget, and every other performs the first. -/
theorem stepKeepsParametersAndOrder : Obligations.StepKeepsParametersAndOrder := by
  intro s t hs
  rcases step_cases s with ⟨hq, heq⟩ | ⟨a, rest, hq, heq⟩
  · cases heq.symm.trans hs
    exact ⟨rfl, le_rfl, by rw [hq, List.tail_nil]⟩
  · obtain ⟨u, hu, hkeep⟩ := performAccess_next a { s with hostQueue := rest }
    cases hu.symm.trans (heq.symm.trans hs)
    exact ⟨hkeep.params, hkeep.drawPos, by rw [hkeep.hostQueue, hq, List.tail_cons]⟩

end Sys2Proof.Claims
end

section
/-!
PROOFS. Registers and memories read after the host wrote them (spec/10_state.md R32 to R55, spec/20_memory.md R72,
R78, R81).
-/

namespace Sys2Proof.Machine

open Sys2Proof.Claims

/-! ### The offsets (R33) -/

theorem registerOffset_eq (r : RegName) : registerOffset r = r.offset := by cases r <;> rfl

/-- A write at the offset of a register other than CMD is a write of that register (R78). -/
theorem hostWrite_offset {r : RegName} (hr : r ≠ .cmd) (v : Word) (s : State) :
    hostWrite (BitVec.ofNat 24 r.offset) .b8 v s = .next ((writeReg r v s).respond .writeDone) :=
  hostWrite_register (busTarget_offset s.params r) (RegName.ofOffset_offset r) hr v

/-! ### A register after a write -/

/-- A write of one register is seen in no other: each pair of registers is read off the two tables. -/
theorem readReg_writeReg (r r' : RegName) (v : Word) (s : State) :
    readReg r' (writeReg r v s) = if r' = r then readReg r (writeReg r v s) else readReg r' s := by
  cases r <;> cases r' <;> rfl

/-- The `n` low bits of a word, the others 0, are the word under the mask of those bits. -/
theorem setWidth_setWidth_eq_and {n : Nat} (v : Word) {mask : Word} (hmask : mask.toNat = 2 ^ n - 1) (hn : n ≤ 64) :
    (v.setWidth n).setWidth 64 = v &&& mask := by
  apply BitVec.eq_of_toNat_eq
  have hle : v.toNat % 2 ^ n < 2 ^ 64 :=
    (Nat.mod_lt _ (Nat.two_pow_pos n)).trans_le (Nat.pow_le_pow_right (by decide) hn)
  rw [BitVec.toNat_and, hmask, Nat.and_two_pow_sub_one_eq_mod, BitVec.toNat_setWidth, BitVec.toNat_setWidth,
    Nat.mod_eq_of_lt hle]

/-- The bits a register stores of a written value: none for the read-only ones and CMD, and else all but the
reserved ones. -/
theorem readReg_writeReg_self (r : RegName) (v : Word) (s : State) :
    readReg r (writeReg r v s) =
      (if r ∈ [.id, .status, .cmd, .res0, .res1, .resi, .maxDb, .freqPerBin, .binRange] then readReg r s
       else if r = .modcfg then v &&& 0x1FF
       else if r ∈ [.fftSize, .msgLen, .count, .argi] then v &&& 0xFFFFFFFF
       else v) := by
  have h9 : (v.setWidth 9).setWidth 64 = v &&& 0x1FF := setWidth_setWidth_eq_and v (by decide) (by decide)
  have h32 : (v.setWidth 32).setWidth 64 = v &&& 0xFFFFFFFF := setWidth_setWidth_eq_and v (by decide) (by decide)
  cases r with
  | modcfg => exact h9
  | fftSize | msgLen | count | argi => exact h32
  | _ => rfl

/-- A write of a register is no write of memory, and leaves what the model keeps beside the registers alone. -/
theorem writeReg_frame (r : RegName) (v : Word) (s : State) :
    (writeReg r v s).mem = s.mem ∧ (writeReg r v s).drawPos = s.drawPos ∧ (writeReg r v s).params = s.params
      ∧ (writeReg r v s).resetCount = s.resetCount ∧ (writeReg r v s).hostQueue = s.hostQueue
      ∧ (writeReg r v s).response = s.response := by
  cases r <;> exact ⟨rfl, rfl, rfl, rfl, rfl, rfl⟩

theorem readByte_writeReg (r : RegName) (v : Word) (s : State) (a : Nat) :
    readByte (writeReg r v s) a = readByte s a := by
  obtain ⟨hmem, -, -, hreset, -, -⟩ := writeReg_frame r v s
  simp only [readByte, hmem, hreset]

/-! ### STATUS (R35) -/

/-- The number of two words put together. -/
theorem toNat_append_eq_add {m n : Nat} (x : BitVec m) (y : BitVec n) :
    (x ++ y).toNat = x.toNat * 2 ^ n + y.toNat := by
  rw [BitVec.toNat_append, ← Nat.shiftLeft_add_eq_or_of_lt y.isLt, Nat.shiftLeft_eq]

theorem statusWord_toNat (s : State) :
    (statusWord s).toNat = (if s.err then 1 else 0) + 16 * s.ecode.toNat + 256 * (if s.specValid then 1 else 0) := by
  have hbit : ∀ b : Bool, (BitVec.ofBool b).toNat = if b then 1 else 0 := by decide
  have h55 : (0 : BitVec 55).toNat = 0 := rfl
  have h3 : (0 : BitVec 3).toNat = 0 := rfl
  simp only [statusWord, toNat_append_eq_add, hbit, h55, h3]
  split_ifs <;> omega

/-! ### A memory after a write (R72, R81) -/

/-- The bytes of a write read back as the low bytes of the value. -/
theorem memRead_memWrite (s : State) (a n : Nat) (v : Word) :
    memRead (memWrite s a n v) a n = BitVec.ofNat 64 (v.toNat % 256 ^ n) := by
  have hbytes := readBytes_writeBytes s a (leBytes n v.toNat) (off := 0) (n := n) (by simp)
  rw [List.drop_zero, List.take_of_length_le (by simp), Nat.add_zero] at hbytes
  rw [memRead, memWrite, hbytes, leValue_leBytes]

/-- Byte `k` of a write. -/
theorem readByte_memWrite_inside (s : State) (a : Nat) {n k : Nat} (v : Word) (hk : k < n) :
    readByte (memWrite s a n v) (a + k) = BitVec.ofNat 8 (v.toNat / 256 ^ k) := by
  obtain ⟨hlt, hbyte⟩ := List.getElem?_eq_some_iff.mp (leBytes_getElem? v.toNat hk)
  rw [← hbyte]
  exact readByte_writeBytes_inside s a (leBytes n v.toNat) hlt

end Sys2Proof.Machine

namespace Sys2Proof.Claims

open Sys2Proof Sys2Proof.Machine

/-- Settles O8: the step performs the access at the register's offset. -/
theorem registerAccessAtItsOffset : Obligations.RegisterAccessAtItsOffset := by
  intro s rest r
  rw [registerOffset_eq]
  refine ⟨fun hq => ?read, fun v hr hq => ?write⟩
  case read =>
    rw [step_read hq, hostRead_offset]
    cases r <;> rfl
  case write => rw [step_write hq, hostWrite_offset hr]

/-- Settles O9. -/
theorem registerReadAfterWrite : Obligations.RegisterReadAfterWrite := by
  intro s r v
  obtain ⟨hmem, hdraw, hparams, hreset, hqueue, hresponse⟩ := writeReg_frame r v s
  exact ⟨readReg_writeReg_self r v s, fun r' hr => (readReg_writeReg r r' v s).trans (if_neg hr), hmem,
    readByte_writeReg r v s, hdraw, hparams, hreset, hqueue, hresponse, rfl, rfl, statusWord_toNat s⟩

/-- Settles O10: the step writes the bytes of the value, and the read after it goes to the same memory. -/
theorem memoryReadAfterWrite : Obligations.MemoryReadAfterWrite := by
  intro s rest addr w v r ht hr hq
  let s' : State := { s with hostQueue := rest }
  refine ⟨(memWrite s' addr.toNat w.bytes v).respond .writeDone, ?step, rfl, ?readBack, fun k hk => ?inside,
    fun a ha => ?outside⟩
  case step => rw [step_write hq, hostWrite_memory (s := s') ht hr]
  case readBack =>
    rw [busRead_memory (s := (memWrite s' addr.toNat w.bytes v).respond .writeDone) ht hr]
    exact congrArg Except.ok (memRead_memWrite s' addr.toNat w.bytes v)
  case inside => exact readByte_memWrite_inside s' addr.toNat v hk
  case outside => exact (WritesOnly.memWrite s' addr.toNat w.bytes v).readByte_eq a ha

end Sys2Proof.Claims
end

section
/-!
PROOFS. Comparisons and NaNs of binary64 (spec/00_scope.md R10, R12), and the corner cases of the raised cosine
(spec/41_pulse_shaper.md R144).
-/

namespace Sys2Proof.Machine

/-! ### The classes by the magnitude bits (R12) -/

theorem fExpField_lt (x : F64) : fExpField x < 2048 := by
  rw [fExpField_eq]
  exact Nat.mod_lt _ (by decide)

theorem isInf_iff (x : F64) : isInf x = true ↔ fMagnitude x = 0x7FF0000000000000 := by
  have hfrac := fFraction_lt x
  rw [fMagnitude_eq_fields]
  simp only [isInf, Bool.and_eq_true, beq_iff_eq]
  omega

theorem isFinite_iff (x : F64) : isFinite x = true ↔ fMagnitude x < 0x7FF0000000000000 := by
  have hfrac := fFraction_lt x
  have hexp := fExpField_lt x
  rw [fMagnitude_eq_fields]
  simp only [isFinite, bne_iff_ne]
  omega

/-- No comparison with a NaN holds. -/
theorem comparisons_of_isNaN {a b : F64} (h : isNaN a = true ∨ isNaN b = true) :
    flt a b = false ∧ fle a b = false ∧ feq a b = false := by
  rcases h with h | h <;> simp [flt, fle, feq, h]

/-! ### Absolute values -/

@[simp] theorem fMagnitude_fabs (x : F64) : fMagnitude (fabs x) = fMagnitude x := by
  have hmask : (0x7FFFFFFFFFFFFFFF : F64).toNat = 2 ^ 63 - 1 := rfl
  rw [fMagnitude_eq, fMagnitude_eq, fabs, BitVec.toNat_and, hmask, Nat.and_two_pow_sub_one_eq_mod, Nat.mod_mod]

@[simp] theorem fSign_fabs (x : F64) : fSign (fabs x) = false := by
  have hmask : (0x7FFFFFFFFFFFFFFF : F64).toNat = 2 ^ 63 - 1 := rfl
  have hlt : x.toNat % 2 ^ 63 < 2 ^ 63 := Nat.mod_lt _ (by decide)
  rw [fSign_eq, fabs, BitVec.toNat_and, hmask, Nat.and_two_pow_sub_one_eq_mod, decide_eq_false_iff_not]
  omega

@[simp] theorem fKey_fabs (x : F64) : fKey (fabs x) = fMagnitude x := by simp [fKey]

@[simp] theorem isNaN_fabs (x : F64) : isNaN (fabs x) = isNaN x := by
  rw [Bool.eq_iff_iff, isNaN_iff, isNaN_iff, fMagnitude_fabs]

/-! ### A NaN operand gives a NaN (R10) -/

theorem isNaN_fadd {a b : F64} (h : isNaN a = true ∨ isNaN b = true) : isNaN (fadd a b) = true := by
  rw [fadd, if_pos (by simpa using h), isNaN_freeNaN]

theorem isNaN_fsub {a b : F64} (h : isNaN a = true ∨ isNaN b = true) : isNaN (fsub a b) = true := by
  rw [fsub, if_pos (by simpa using h), isNaN_freeNaN]

theorem isNaN_fmul {a b : F64} (h : isNaN a = true ∨ isNaN b = true) : isNaN (fmul a b) = true := by
  simp only [fmul]
  rw [if_pos (by simpa using h), isNaN_freeNaN]

theorem isNaN_fdiv {a b : F64} (h : isNaN a = true ∨ isNaN b = true) : isNaN (fdiv a b) = true := by
  simp only [fdiv]
  rw [if_pos (by simpa using h), isNaN_freeNaN]

theorem isNaN_fsqrt {x : F64} (h : isNaN x = true) : isNaN (fsqrt x) = true := by
  rw [fsqrt, if_pos h, isNaN_freeNaN]

/-- The test of the sinc primitive fails for a NaN, and both operands of its quotient's divisor carry it. -/
theorem isNaN_sincf {x : F64} (h : isNaN x = true) : isNaN (sincf x) = true := by
  rw [sincf_of_not_near_zero (by simp [flt, h])]
  exact isNaN_fdiv (.inr (isNaN_fmul (.inr h)))

/-- A NaN offset fails every test of the raised cosine down to the general branch, whose sinc is then a NaN. -/
theorem isNaN_rcos {t : F64} (h : isNaN t = true) (ts beta : F64) : isNaN (rcos t ts beta) = true := by
  have hx : isNaN (fdiv t ts) = true := isNaN_fdiv (.inl h)
  have hu : isNaN (fsub (fabs (fmul (fmul fTwo beta) (fdiv t ts))) fOne) = true :=
    isNaN_fsub (.inl (by rw [isNaN_fabs]; exact isNaN_fmul (.inr hx)))
  rw [rcos_of_general (by simp [flt, h]) (by simp [flt, h]) (by simp [flt, hu])]
  exact isNaN_fmul (.inl (isNaN_sincf hx))

/-! ### Rounded magnitudes -/

/-- The magnitude of a rounded value is the rounded code, which never passes infinity. -/
theorem fMagnitude_fRound (sign : Bool) (m : Nat) (e : Int) (sticky : Bool) :
    fMagnitude (fRound sign m e sticky) = roundCode binary64 m e sticky := by
  have hle : roundCode binary64 m e sticky ≤ 0x7FF0000000000000 := roundCode_le binary64 m e sticky
  rw [fRound, fMagnitude_fPack, Nat.mod_eq_of_lt (by omega)]

theorem fKey_fRound (sign : Bool) (m : Nat) (e : Int) (sticky : Bool) :
    fKey (fRound sign m e sticky) =
      if sign then -(roundCode binary64 m e sticky : Int) else (roundCode binary64 m e sticky : Int) := by
  rw [fKey, fMagnitude_fRound, fRound, fSign_fPack]

theorem shiftRight_pos {m sh : Nat} (h : sh ≤ m.log2) (hm : m ≠ 0) : 0 < m >>> sh := by
  rw [Nat.shiftRight_eq_div_pow]
  exact Nat.div_pos ((Nat.pow_le_pow_right (by decide) h).trans (Nat.log2_self_le hm)) (Nat.two_pow_pos sh)

/-- Rounding to an integer goes down to the whole part or one up from it. -/
theorem roundShift_bounds (m sh : Nat) (sticky : Bool) :
    m >>> sh ≤ roundShift m sh sticky ∧ roundShift m sh sticky ≤ m >>> sh + 1 := by
  simp only [roundShift]
  split <;> omega

/-- A value of at least the least subnormal does not round to zero. -/
theorem roundCode_pos {m : Nat} {e : Int} (hm : m ≠ 0) (he : -1074 ≤ e + m.log2) (sticky : Bool) :
    0 < roundCode binary64 m e sticky := by
  simp only [roundCode, hm, if_false, binary64, Nat.shiftLeft_eq]
  refine Nat.lt_min.mpr ⟨by decide, ?_⟩
  by_cases hq : e + (m.log2 : Int) - 52 ≤ -1074
  · have hmax : max (e + (m.log2 : Int) - ((52 : Nat) : Int)) (-1074) = -1074 := max_eq_right hq
    rw [hmax]
    refine Nat.lt_of_lt_of_le ?_ (Nat.le_add_left _ _)
    split
    · positivity
    · have hsh : (-1074 - e).toNat ≤ m.log2 := by omega
      exact (shiftRight_pos hsh hm).trans_le (roundShift_bounds m _ sticky).1
  · refine Nat.lt_of_lt_of_le ?_ (Nat.le_add_right _ _)
    have hmax : 0 < (max (e + (m.log2 : Int) - ((52 : Nat) : Int)) (-1074) - -1074).toNat := by omega
    positivity

/-! ### Four times a symbol period, and the raised cosine (R144) -/

/-- The signs, classes and fields of 4.0. -/
theorem fFour_parts : isNaN fFour = false ∧ isInf fFour = false ∧ isZero fFour = false ∧ fSign fFour = false
    ∧ fSig fFour = 2 ^ 52 ∧ fExp fFour = -50 := by decide

/-- `4*Ts` by the class of `Ts`: infinite or rounded once, with the sign of `Ts`. -/
theorem fmul_fFour {ts : F64} (h : isNaN ts = false) :
    (isInf ts = true ∧ fmul fFour ts = fPack (fSign ts) 0x7FF0000000000000)
      ∨ (isInf ts = false ∧ fmul fFour ts = fRound (fSign ts) (2 ^ 52 * fSig ts) (-50 + fExp ts) false) := by
  obtain ⟨hnan, hinf, hzero, hsign, hsig, hexp⟩ := fFour_parts
  cases hi : isInf ts with
  | true => exact .inl ⟨rfl, by simp [fmul, h, hi, hnan, hinf, hzero, hsign]⟩
  | false => exact .inr ⟨rfl, by simp [fmul, h, hi, hnan, hinf, hsign, hsig, hexp]⟩

/-- A significand is zero exactly where the magnitude is. -/
theorem fSig_eq_zero_iff {x : F64} : fSig x = 0 ↔ fMagnitude x = 0 := by
  have hfrac := fFraction_lt x
  rw [fMagnitude_eq_fields, fSig]
  split <;> omega

theorem neg1074_le_fExp (x : F64) : -1074 ≤ fExp x := by
  rw [fExp]
  split <;> omega

/-- `4*Ts` is not negative for `Ts >= 0`, `-0.0` among them. -/
theorem fKey_fmul_fFour_nonneg {ts : F64} (h : fle fZero ts = true) : 0 ≤ fKey (fmul fFour ts) := by
  simp only [fle, Bool.and_eq_true, Bool.not_eq_true', decide_eq_true_eq] at h
  obtain ⟨⟨-, hnan⟩, hkey⟩ := h
  have hzero : fKey fZero = 0 := by decide
  rw [hzero, fKey] at hkey
  rcases fmul_fFour hnan with ⟨hinf, heq⟩ | ⟨-, heq⟩ <;> rw [heq]
  · have hmag := fMagnitude_of_isInf hinf
    cases hs : fSign ts with
    | true => simp [hs, hmag] at hkey
    | false => simp [fKey]
  · rw [fKey_fRound]
    cases hs : fSign ts with
    | true =>
      have hmag : fMagnitude ts = 0 := by simp only [hs, if_true] at hkey; omega
      simp [fSig_eq_zero_iff.mpr hmag, roundCode]
    | false => simp

/-- `4*Ts` is negative for `Ts < 0`: the product with 4 does not underflow. -/
theorem fKey_fmul_fFour_neg {ts : F64} (h : flt ts fZero = true) :
    isNaN (fmul fFour ts) = false ∧ fKey (fmul fFour ts) < 0 := by
  obtain ⟨hnan, -, hkey⟩ := flt_iff.mp h
  have hzero : fKey fZero = 0 := by decide
  have hsign : fSign ts = true ∧ fMagnitude ts ≠ 0 := by
    rw [hzero, fKey] at hkey
    split at hkey
    · exact ⟨‹_›, by omega⟩
    · omega
  obtain ⟨hs, hmag⟩ := hsign
  rcases fmul_fFour hnan with ⟨-, heq⟩ | ⟨-, heq⟩ <;> rw [heq, hs]
  · exact ⟨by decide, by decide⟩
  · have hsig : fSig ts ≠ 0 := mt fSig_eq_zero_iff.mp hmag
    have hne : 2 ^ 52 * fSig ts ≠ 0 := by positivity
    have hlog : (2 ^ 52 * fSig ts).log2 = (fSig ts).log2 + 52 := by rw [Nat.mul_comm, log2_mul_two_pow hsig]
    have hexp := neg1074_le_fExp ts
    have hpos := roundCode_pos (e := -50 + fExp ts) hne (by rw [hlog]; omega) false
    refine ⟨isNaN_fRound _ _ _ _, ?_⟩
    rw [fKey_fRound]
    simpa using hpos

end Sys2Proof.Machine

namespace Sys2Proof.Claims

open Sys2Proof Sys2Proof.Machine

/-- Settles O24: the comparisons test for NaNs first, and the classes are read off the fields. -/
theorem comparisonsAndNaN : Obligations.ComparisonsAndNaN := by
  refine ⟨fun a b => comparisons_of_isNaN, by decide, fun x => ?_⟩
  rw [← fMagnitude_eq]
  exact ⟨isNaN_iff x, isInf_iff x, isFinite_iff x⟩

/-- Settles O25: every operation tests its operands for NaNs first, and the functions are made of operations. -/
theorem naNPropagates : Obligations.NaNPropagates := fun _ y z h =>
  ⟨isNaN_fadd (.inl h), isNaN_fadd (.inr h), isNaN_fsub (.inl h), isNaN_fsub (.inr h), isNaN_fmul (.inl h),
    isNaN_fmul (.inr h), isNaN_fdiv (.inl h), isNaN_fdiv (.inr h), isNaN_fsqrt h, isNaN_sincf h, isNaN_rcos h y z⟩

/-- Settles O27: the fact that WINDOW's rectangular case rests on. -/
theorem multiplyByOneExact : Obligations.MultiplyByOneExact := fun _ => fmul_one

/-- Settles O32: the sign of `4*Ts` decides branch Z, and a zero offset is inside branch C. -/
theorem rcosCornerCases : Obligations.RcosCornerCases := by
  intro t ts beta
  refine ⟨fun hzero hts => ?centre, fun hnan hts => ?negative, rcos_of_beyond⟩
  case centre =>
    have hmag : fMagnitude t = 0 := by simpa [isZero] using hzero
    have hnan : isNaN t = false := by rw [← Bool.not_eq_true, isNaN_iff, hmag]; decide
    have hbeyond : ¬ flt (fmul fFour ts) (fabs t) = true := by
      rw [Bool.not_eq_true, flt_eq_false_iff, fKey_fabs, hmag]
      exact fun _ _ => fKey_fmul_fFour_nonneg hts
    have hnear : flt (fabs t) EPS9 = true := by
      rw [flt_iff, isNaN_fabs, fKey_fabs, hmag]
      exact ⟨hnan, by decide, by decide⟩
    exact rcos_of_centre hbeyond hnear
  case negative =>
    obtain ⟨hprod, hkey⟩ := fKey_fmul_fFour_neg hts
    refine rcos_of_beyond (flt_iff.mpr ⟨hprod, by rwa [isNaN_fabs], ?_⟩)
    rw [fKey_fabs]
    omega

end Sys2Proof.Claims
end

section
/-!
PROOFS. Integers as binary64 values (spec/00_scope.md R13), and the uniform value of a draw (spec/43_noise.md R200).
-/

namespace Sys2Proof.Machine

/-! ### Rounding does not depend on how an exact value is scaled -/

/-- Rounding off at least one bit, by the remainder: more than half goes up, and half goes to the even neighbour. -/
theorem roundShift_succ (m n : Nat) :
    roundShift m (n + 1) false =
      if 2 ^ n < m % 2 ^ (n + 1) ∨ (2 ^ n = m % 2 ^ (n + 1) ∧ m / 2 ^ (n + 1) % 2 = 1) then m / 2 ^ (n + 1) + 1
      else m / 2 ^ (n + 1) := by
  have hhalf : (1 <<< (n + 1)) >>> 1 = 2 ^ n := by
    rw [Nat.shiftLeft_eq, Nat.shiftRight_eq_div_pow, Nat.one_mul, Nat.pow_succ, Nat.pow_one,
      Nat.mul_div_cancel _ (by decide)]
  have hrem : m - m / 2 ^ (n + 1) * 2 ^ (n + 1) = m % 2 ^ (n + 1) := by
    rw [Nat.mul_comm]
    exact Nat.sub_eq_of_eq_add (Nat.mod_add_div m _).symm
  simp only [roundShift, hhalf, Nat.shiftRight_eq_div_pow m, Nat.shiftLeft_eq (m / _), hrem]
  simp

theorem roundShift_scaled (m k sh : Nat) : roundShift (m * 2 ^ k) (sh + k) false = roundShift m sh false := by
  cases sh with
  | zero =>
    have hone := roundShift_mul_two_pow m 0
    rw [Nat.pow_zero, Nat.mul_one] at hone
    rw [Nat.zero_add, roundShift_mul_two_pow, hone]
  | succ n =>
    have hk : 0 < 2 ^ k := Nat.two_pow_pos k
    rw [show n + 1 + k = n + k + 1 by omega, roundShift_succ, roundShift_succ, show n + k + 1 = n + 1 + k by omega,
      Nat.pow_add 2 (n + 1) k, Nat.pow_add 2 n k, Nat.mul_mod_mul_right, Nat.mul_div_mul_right _ _ hk]
    simp only [Nat.mul_lt_mul_right hk, Nat.mul_left_inj hk.ne']

/-- `m * 2^k` at exponent `e - k` rounds as `m` at `e`. -/
theorem roundCode_scaled (fmt : Format) (m k : Nat) (e : Int) :
    roundCode fmt (m * 2 ^ k) (e - k) false = roundCode fmt m e false := by
  by_cases hm : m = 0
  · simp [roundCode, hm]
  have hne : m * 2 ^ k ≠ 0 := by positivity
  have hq : e - (k : Int) + ((m * 2 ^ k).log2 : Int) = e + (m.log2 : Int) := by
    rw [log2_mul_two_pow hm]
    push_cast
    ring
  simp only [roundCode, hm, hne, if_false, hq]
  generalize max (e + (m.log2 : Int) - (fmt.fractionBits : Int)) fmt.minExp = q
  suffices hn : (if q ≤ e - (k : Int) then (m * 2 ^ k) <<< (e - (k : Int) - q).toNat
      else roundShift (m * 2 ^ k) (q - (e - (k : Int))).toNat false)
      = if q ≤ e then m <<< (e - q).toNat else roundShift m (q - e).toNat false by rw [hn]
  rcases le_or_gt q (e - k) with hlow | hlow
  · have hsh : (e - q).toNat = k + (e - (k : Int) - q).toNat := by omega
    rw [if_pos hlow, if_pos (by omega), hsh, Nat.shiftLeft_eq, Nat.shiftLeft_eq, Nat.pow_add, Nat.mul_assoc]
  · rw [if_neg (by omega)]
    rcases le_or_gt q e with hmid | hhigh
    · have hk : k = (e - q).toNat + (q - (e - (k : Int))).toNat := by omega
      rw [if_pos hmid, Nat.shiftLeft_eq]
      conv_lhs => rw [show m * 2 ^ k = m * 2 ^ (e - q).toNat * 2 ^ (q - (e - (k : Int))).toNat by
        rw [Nat.mul_assoc, ← Nat.pow_add, ← hk]]
      exact roundShift_mul_two_pow _ _
    · have hsh : (q - (e - (k : Int))).toNat = (q - e).toNat + k := by omega
      rw [if_neg (by omega), hsh, roundShift_scaled]

/-! ### The parts of an exact value -/

/-- The exponent and significand of a normal encoding. -/
theorem parts_of_fPack_normal (sign : Bool) {sig E : Nat} (hlo : 2 ^ 52 ≤ sig) (hhi : sig < 2 ^ 53) (hE : E ≤ 2045) :
    fSig (fPack sign (E * 2 ^ 52 + sig)) = sig ∧ fExp (fPack sign (E * 2 ^ 52 + sig)) = (E : Int) - 1074
      ∧ isFinite (fPack sign (E * 2 ^ 52 + sig)) = true := by
  have hmag : fMagnitude (fPack sign (E * 2 ^ 52 + sig)) = E * 2 ^ 52 + sig := by
    rw [fMagnitude_fPack]
    omega
  have hfields := fMagnitude_eq_fields (fPack sign (E * 2 ^ 52 + sig))
  have hfrac := fFraction_lt (fPack sign (E * 2 ^ 52 + sig))
  have hexp : fExpField (fPack sign (E * 2 ^ 52 + sig)) = E + 1 := by omega
  refine ⟨?_, ?_, ?_⟩
  · rw [fSig, hexp, if_neg (by omega)]
    omega
  · rw [fExp, hexp, if_neg (by omega)]
    push_cast
    ring
  · rw [isFinite_iff]
    omega

/-- A positive integer up to `2^53` as a signed binary64 value: exact, with its leading bit in the significand's. -/
theorem fRound_nat_parts (sign : Bool) {k : Nat} (hpos : 0 < k) (hle : k ≤ 2 ^ 53) :
    isFinite (fRound sign k 0 false) = true ∧ fExp (fRound sign k 0 false) = (k.log2 : Int) - 52
      ∧ fSig (fRound sign k 0 false) * 2 ^ k.log2 = k * 2 ^ 52 := by
  have hlog_le := Nat.log2_self_le hpos.ne'
  have hlog_lt := Nat.lt_log2_self (n := k)
  rcases Nat.lt_or_eq_of_le hle with hlt | rfl
  · have hlog : k.log2 ≤ 52 := Nat.lt_succ_iff.mp ((Nat.log2_lt hpos.ne').mpr hlt)
    obtain ⟨d, hd⟩ := Nat.exists_eq_add_of_le hlog
    have hscale : 2 ^ 52 = 2 ^ k.log2 * 2 ^ d := by rw [← Nat.pow_add, ← hd]
    have hsig_lo : 2 ^ 52 ≤ k * 2 ^ d := hscale ▸ Nat.mul_le_mul_right _ hlog_le
    have hsig_hi : k * 2 ^ d < 2 ^ 53 := by
      have htop : 2 ^ 53 = 2 ^ (k.log2 + 1) * 2 ^ d := by rw [← Nat.pow_add, show k.log2 + 1 + d = 53 by omega]
      rw [htop]
      exact Nat.mul_lt_mul_of_pos_right hlog_lt (Nat.two_pow_pos d)
    have hq : max ((0 : Int) + (k.log2 : Int) - ((52 : Nat) : Int)) (-1074) = (k.log2 : Int) - 52 := by omega
    have hE : ((k.log2 : Int) - 52 - -1074).toNat = k.log2 + 1022 := by omega
    have hsh : ((0 : Int) - ((k.log2 : Int) - 52)).toNat = d := by omega
    have hcode : roundCode binary64 k 0 false = (k.log2 + 1022) * 2 ^ 52 + k * 2 ^ d := by
      simp only [roundCode, hpos.ne', if_false, binary64, hq, hE, hsh, Nat.shiftLeft_eq]
      rw [if_pos (by omega), min_eq_right (by omega)]
    obtain ⟨hsig, hexp, hfin⟩ := parts_of_fPack_normal sign hsig_lo hsig_hi (E := k.log2 + 1022) (by omega)
    rw [fRound, hcode]
    refine ⟨hfin, ?_, ?_⟩
    · rw [hexp]
      push_cast
      ring
    · rw [hsig, hscale]
      ring
  · cases sign <;> decide

/-- A positive natural number up to `2^53`. -/
theorem ofNat_parts {k : Nat} (hpos : 0 < k) (hle : k ≤ 2 ^ 53) :
    isFinite (ofNat k) = true ∧ fExp (ofNat k) = (k.log2 : Int) - 52 ∧ fSig (ofNat k) * 2 ^ k.log2 = k * 2 ^ 52
      ∧ fSig (ofNat k) ≠ 0 := by
  obtain ⟨hfin, hexp, hsig⟩ := fRound_nat_parts false hpos hle
  refine ⟨hfin, hexp, hsig, fun h => ?_⟩
  rw [show fSig (fRound false k 0 false) = 0 from h, Nat.zero_mul] at hsig
  exact (Nat.mul_pos hpos (Nat.two_pow_pos 52)).ne hsig

@[simp] theorem isNaN_ofNat (k : Nat) : isNaN (ofNat k) = false := isNaN_fRound false k 0 false

@[simp] theorem fSign_ofNat (k : Nat) : fSign (ofNat k) = false := fSign_fPack _ _

/-! ### The floor of an integer (R13) -/

theorem shiftRight_mul_two_pow (z : Int) (n : Nat) : (z * 2 ^ n) >>> n = z := by
  rw [Int.shiftRight_eq_div_pow]
  push_cast
  exact Int.mul_ediv_cancel _ (by positivity)

/-- The floor of a positive integer's value, with either sign. -/
theorem ffloor_fRound_nat (sign : Bool) {k : Nat} (hpos : 0 < k) (hle : k ≤ 2 ^ 53) :
    ffloor (fRound sign k 0 false) = if sign then -(k : Int) else (k : Int) := by
  obtain ⟨hfin, hexp, hsig⟩ := fRound_nat_parts sign hpos hle
  have hsign : fSign (fRound sign k 0 false) = sign := by rw [fRound, fSign_fPack]
  simp only [ffloor, hfin, if_true, hexp, hsign, Nat.shiftLeft_eq, Nat.one_mul]
  generalize fSig (fRound sign k 0 false) = sig at hsig
  rcases le_or_gt 52 k.log2 with hbig | hsmall
  · obtain ⟨d, hd⟩ := Nat.exists_eq_add_of_le hbig
    have hk : sig * 2 ^ d = k := by
      rw [hd, Nat.pow_add] at hsig
      exact Nat.eq_of_mul_eq_mul_right (Nat.two_pow_pos 52) (by rw [← hsig]; ring)
    have hsh : ((k.log2 : Int) - 52).toNat = d := by omega
    rw [if_pos (by omega), hsh, ← hk]
    cases sign <;> push_cast <;> simp
  · obtain ⟨d, hd⟩ := Nat.exists_eq_add_of_lt hsmall
    have hk : sig = k * 2 ^ (d + 1) := by
      rw [show 52 = k.log2 + (d + 1) by omega, Nat.pow_add] at hsig
      exact Nat.eq_of_mul_eq_mul_right (Nat.two_pow_pos k.log2) (by rw [hsig]; ring)
    have hsh : (-((k.log2 : Int) - 52)).toNat = d + 1 := by omega
    rw [if_neg (by omega), hsh, hk]
    cases sign
    · simpa using shiftRight_mul_two_pow (k : Int) (d + 1)
    · simpa using shiftRight_mul_two_pow (-(k : Int)) (d + 1)

/-! ### The sum of a natural number and 1.0 -/

/-- The signs, classes and fields of 1.0. -/
theorem fOne_parts : isNaN fOne = false ∧ isInf fOne = false ∧ fSign fOne = false ∧ fSig fOne = 2 ^ 52
    ∧ fExp fOne = -52 := by decide

theorem isInf_eq_false_of_isFinite {x : F64} (h : isFinite x = true) : isInf x = false := by
  rw [← Bool.not_eq_true, isInf_iff]
  have := (isFinite_iff x).mp h
  omega

/-- `f64(k)` and 1.0 at the lesser of their exponents `-j` add up to `(k + 1) * 2^j`. -/
theorem exists_scaled_succ {k : Nat} (h : k < 2 ^ 53) :
    ∃ j : Nat, min (fExp (ofNat k)) (-52) = -(j : Int)
      ∧ scaledInt false (fSig (ofNat k)) (fExp (ofNat k)) (-(j : Int)) + scaledInt false (2 ^ 52) (-52) (-(j : Int))
        = (((k + 1) * 2 ^ j : Nat) : Int) := by
  simp only [scaledInt, Bool.false_eq_true, if_false, Nat.shiftLeft_eq]
  rcases Nat.eq_zero_or_pos k with rfl | hpos
  · obtain ⟨hexp, hsig⟩ : fExp (ofNat 0) = -1074 ∧ fSig (ofNat 0) = 0 := by decide
    obtain ⟨j, d, hj, hd⟩ : ∃ j d : Nat, j = 1074 ∧ j = 52 + d := ⟨1074, 1022, rfl, rfl⟩
    have hsh : ((-52 : Int) - -(j : Int)).toNat = d := by omega
    refine ⟨j, by rw [hexp, hj]; rfl, ?_⟩
    rw [hsig, hsh, hd, Nat.pow_add, Nat.zero_mul, Nat.cast_zero, zero_add, Nat.zero_add, Nat.one_mul]
  · obtain ⟨-, hexp, hsig, -⟩ := ofNat_parts hpos h.le
    have hsh : ((k.log2 : Int) - 52 - -((52 : Nat) : Int)).toNat = k.log2 := by omega
    refine ⟨52, by rw [hexp]; omega, ?_⟩
    rw [hexp, hsh, hsig]
    push_cast
    ring

/-- `f64(k) + 1.0` is `f64(k + 1)`. -/
theorem fadd_ofNat_fOne {k : Nat} (h : k < 2 ^ 53) : fadd (ofNat k) fOne = ofNat (k + 1) := by
  obtain ⟨hnan1, hinf1, hsign1, hsig1, hexp1⟩ := fOne_parts
  obtain ⟨j, he, hsum⟩ := exists_scaled_succ h
  have hinf : isInf (ofNat k) = false := by
    rcases Nat.eq_zero_or_pos k with rfl | hpos
    · decide
    · exact isInf_eq_false_of_isFinite (ofNat_parts hpos h.le).1
  have hne : (((k + 1) * 2 ^ j : Nat) : Int) ≠ 0 := by positivity
  have hneg : ¬ (((k + 1) * 2 ^ j : Nat) : Int) < 0 := not_lt.mpr (Int.natCast_nonneg _)
  have hscaled := roundCode_scaled binary64 (k + 1) j 0
  rw [zero_sub] at hscaled
  simp only [fadd, isNaN_ofNat, hnan1, Bool.or_self, Bool.false_eq_true, if_false, faddWith, hinf, hinf1, hexp1, he,
    fSign_ofNat, hsign1, hsig1, hsum, hne, hneg, decide_false, Int.natAbs_natCast]
  exact congrArg (fPack false) hscaled

/-! ### The quotient of two integers in order -/

/-- An integer part below `2^j` at exponent `-j`, long enough to be rounded, rounds to at most 1.0. -/
theorem roundCode_le_one {m j : Nat} (hlong : 53 ≤ m.log2) (hlt : m < 2 ^ j) (hnorm : j ≤ m.log2 + 1022)
    (sticky : Bool) : roundCode binary64 m (-(j : Int)) sticky ≤ 0x3FF0000000000000 := by
  have hm : m ≠ 0 := by
    rintro rfl
    simp at hlong
  have hlog : m.log2 < j := (Nat.log2_lt hm).mpr hlt
  obtain ⟨d, hd⟩ := Nat.exists_eq_add_of_le (show 52 ≤ m.log2 by omega)
  have hq : max (-(j : Int) + (m.log2 : Int) - ((52 : Nat) : Int)) (-1074) = -(j : Int) + (d : Int) := by omega
  have hsh : (-(j : Int) + (d : Int) - -(j : Int)).toNat = d := by omega
  have hE : (-(j : Int) + (d : Int) - -1074).toNat ≤ 1021 := by omega
  have hn : roundShift m d sticky ≤ 2 ^ 53 := by
    have htop : m < 2 ^ 53 * 2 ^ d := by
      rw [← Nat.pow_add, show 53 + d = m.log2 + 1 by omega]
      exact Nat.lt_log2_self
    have hwhole : m >>> d < 2 ^ 53 := by
      rw [Nat.shiftRight_eq_div_pow]
      exact Nat.div_lt_of_lt_mul (by rwa [Nat.mul_comm] at htop)
    have hround := (roundShift_bounds m d sticky).2
    omega
  simp only [roundCode, hm, if_false, binary64, hq, hsh, Nat.shiftLeft_eq]
  rw [if_neg (by omega)]
  exact (min_le_right _ _).trans (by omega)

/-- The quotient of two positive finite values. -/
theorem fdiv_of_finite {a b : F64} (ha : isFinite a = true) (hb : isFinite b = true) (hna : isNaN a = false)
    (hnb : isNaN b = false) (hsa : fSign a = false) (hsb : fSign b = false) (hb0 : fSig b ≠ 0) :
    fdiv a b = fRound false (fSig a <<< 116 / fSig b) (fExp a - fExp b - 116)
      (decide (fSig a <<< 116 / fSig b * fSig b ≠ fSig a <<< 116)) := by
  have hzero : isZero b = false := by
    simpa [isZero] using mt fSig_eq_zero_iff.mpr hb0
  simp [fdiv, hna, hnb, isInf_eq_false_of_isFinite ha, isInf_eq_false_of_isFinite hb, hzero, hsa, hsb]

/-- A value of at least 1 divided by itself is 1: the quotient of the significands is exact. -/
theorem roundCode_one : roundCode binary64 (1 * 2 ^ 116) (0 - (116 : Nat)) false = 0x3FF0000000000000 := by
  rw [roundCode_scaled]
  decide

/-- The significand and exponent of the quotient of two integers in strict order: the quotient `q` of the
significands has more bits than are kept, and `q * 2^(-j)` is below 1. -/
theorem quotient_bounds {x y sx sy : Nat} (hx : 0 < x) (hxy : x < y) (hy : y ≤ 2 ^ 53)
    (hsx : sx * 2 ^ x.log2 = x * 2 ^ 52) (hsy : sy * 2 ^ y.log2 = y * 2 ^ 52) :
    53 ≤ (sx * 2 ^ 116 / sy).log2 ∧ sx * 2 ^ 116 / sy < 2 ^ (116 + y.log2 - x.log2)
      ∧ x.log2 ≤ y.log2 ∧ y.log2 ≤ 53 := by
  have hy0 : 0 < y := hx.trans hxy
  have hlog : x.log2 ≤ y.log2 := (Nat.le_log2 hy0.ne').mpr ((Nat.log2_self_le hx.ne').trans hxy.le)
  have hlogy : y.log2 ≤ 53 :=
    Nat.lt_succ_iff.mp ((Nat.log2_lt hy0.ne').mpr (hy.trans_lt (Nat.pow_lt_pow_right (by decide) (by decide))))
  have hsx_lo : 2 ^ 52 ≤ sx := by
    refine Nat.le_of_mul_le_mul_right ?_ (Nat.two_pow_pos x.log2)
    rw [hsx, Nat.mul_comm]
    exact Nat.mul_le_mul_right _ (Nat.log2_self_le hx.ne')
  have hsy_hi : sy < 2 ^ 53 := by
    refine Nat.lt_of_mul_lt_mul_right (a := 2 ^ y.log2) ?_
    rw [hsy, show 2 ^ 53 * 2 ^ y.log2 = 2 ^ (y.log2 + 1) * 2 ^ 52 by rw [Nat.pow_succ]; ring]
    exact Nat.mul_lt_mul_of_pos_right Nat.lt_log2_self (Nat.two_pow_pos 52)
  have hsy0 : 0 < sy := by
    refine Nat.pos_of_ne_zero fun h => ?_
    rw [h, Nat.zero_mul] at hsy
    exact (Nat.mul_pos hy0 (Nat.two_pow_pos 52)).ne hsy
  have hq_lo : 2 ^ 115 ≤ sx * 2 ^ 116 / sy := by
    rw [Nat.le_div_iff_mul_le hsy0]
    calc 2 ^ 115 * sy ≤ 2 ^ 115 * 2 ^ 53 := Nat.mul_le_mul_left _ hsy_hi.le
      _ = 2 ^ 52 * 2 ^ 116 := by norm_num
      _ ≤ sx * 2 ^ 116 := Nat.mul_le_mul_right _ hsx_lo
  have hq0 : sx * 2 ^ 116 / sy ≠ 0 := (Nat.two_pow_pos 115).trans_le hq_lo |>.ne'
  refine ⟨(Nat.le_log2 hq0).mpr ((Nat.pow_le_pow_right (by decide) (by decide)).trans hq_lo), ?_, hlog, hlogy⟩
  rw [Nat.div_lt_iff_lt_mul hsy0]
  refine Nat.lt_of_mul_lt_mul_right (a := 2 ^ x.log2 * 2 ^ y.log2) ?_
  calc sx * 2 ^ 116 * (2 ^ x.log2 * 2 ^ y.log2)
      = sx * 2 ^ x.log2 * (2 ^ 116 * 2 ^ y.log2) := by ring
    _ = x * (2 ^ 52 * (2 ^ 116 * 2 ^ y.log2)) := by rw [hsx]; ring
    _ < y * (2 ^ 52 * (2 ^ 116 * 2 ^ y.log2)) := Nat.mul_lt_mul_of_pos_right hxy (by positivity)
    _ = sy * 2 ^ y.log2 * 2 ^ (116 + y.log2) := by rw [hsy, Nat.pow_add 2 116]; ring
    _ = sy * 2 ^ y.log2 * (2 ^ (116 + y.log2 - x.log2) * 2 ^ x.log2) := by
      rw [← Nat.pow_add, Nat.sub_add_cancel (by omega)]
    _ = 2 ^ (116 + y.log2 - x.log2) * sy * (2 ^ x.log2 * 2 ^ y.log2) := by ring

/-- The quotient `f64(x) / f64(y)` of integers up to `2^53`, rounded once. -/
theorem fdiv_ofNat {x y : Nat} (hx : 0 < x) (hy : 0 < y) (hx' : x ≤ 2 ^ 53) (hy' : y ≤ 2 ^ 53) :
    fdiv (ofNat x) (ofNat y) =
      fRound false (fSig (ofNat x) * 2 ^ 116 / fSig (ofNat y)) ((x.log2 : Int) - y.log2 - 116)
        (decide (fSig (ofNat x) * 2 ^ 116 / fSig (ofNat y) * fSig (ofNat y) ≠ fSig (ofNat x) * 2 ^ 116)) := by
  obtain ⟨hfx, hex, -, -⟩ := ofNat_parts hx hx'
  obtain ⟨hfy, hey, -, hsy⟩ := ofNat_parts hy hy'
  rw [fdiv_of_finite hfx hfy (isNaN_ofNat x) (isNaN_ofNat y) (fSign_ofNat x) (fSign_ofNat y) hsy, hex, hey,
    Nat.shiftLeft_eq, show (x.log2 : Int) - 52 - ((y.log2 : Int) - 52) - 116 = (x.log2 : Int) - y.log2 - 116 by ring]

/-- For `1 <= x <= y <= 2^53` the quotient of the significands rounds to more than 0 and at most 1. -/
theorem roundCode_quotient_bounds {x y : Nat} (hx : 0 < x) (hxy : x ≤ y) (hy : y ≤ 2 ^ 53) :
    let code := roundCode binary64 (fSig (ofNat x) * 2 ^ 116 / fSig (ofNat y)) ((x.log2 : Int) - y.log2 - 116)
      (decide (fSig (ofNat x) * 2 ^ 116 / fSig (ofNat y) * fSig (ofNat y) ≠ fSig (ofNat x) * 2 ^ 116))
    0 < code ∧ code ≤ 0x3FF0000000000000 := by
  intro code
  obtain ⟨-, -, hsx, hsx0⟩ := ofNat_parts hx (hxy.trans hy)
  obtain ⟨-, -, hsy, -⟩ := ofNat_parts (hx.trans_le hxy) hy
  rcases Nat.lt_or_eq_of_le hxy with hlt | rfl
  · obtain ⟨hlong, hq, hlog, hlogy⟩ := quotient_bounds hx hlt hy hsx hsy
    have hj : (x.log2 : Int) - y.log2 - 116 = -((116 + y.log2 - x.log2 : Nat) : Int) := by omega
    have hq0 : fSig (ofNat x) * 2 ^ 116 / fSig (ofNat y) ≠ 0 := fun h => by
      rw [h, Nat.log2_zero] at hlong
      omega
    simp only [code, hj]
    exact ⟨roundCode_pos hq0 (by omega) _, roundCode_le_one hlong hq (by omega) _⟩
  · have hone : fSig (ofNat x) * 2 ^ 116 / fSig (ofNat x) = 1 * 2 ^ 116 := by
      rw [Nat.mul_div_cancel_left _ (Nat.pos_of_ne_zero hsx0), Nat.one_mul]
    have hexact : decide (1 * 2 ^ 116 * fSig (ofNat x) ≠ fSig (ofNat x) * 2 ^ 116) = false := by
      simp [Nat.mul_comm]
    have hexp : (x.log2 : Int) - x.log2 - 116 = 0 - ((116 : Nat) : Int) := by omega
    simp only [code, hone, hexact, hexp, roundCode_one]
    decide

/-- The quotient of two such integers by its ordering key. -/
theorem fKey_fdiv_ofNat {x y : Nat} (hx : 0 < x) (hxy : x ≤ y) (hy : y ≤ 2 ^ 53) :
    0 < fKey (fdiv (ofNat x) (ofNat y)) ∧ fKey (fdiv (ofNat x) (ofNat y)) ≤ 0x3FF0000000000000 := by
  obtain ⟨hpos, hle⟩ := roundCode_quotient_bounds hx hxy hy
  rw [fdiv_ofNat hx (hx.trans_le hxy) (hxy.trans hy) hy, fKey_fRound, if_neg (by decide)]
  omega

/-- For `1 <= x <= y <= 2^53` the quotient `f64(x) / f64(y)` is in `(0, 1]`. -/
theorem fdiv_ofNat_bounds {x y : Nat} (hx : 0 < x) (hxy : x ≤ y) (hy : y ≤ 2 ^ 53) :
    flt fZero (fdiv (ofNat x) (ofNat y)) = true ∧ fle (fdiv (ofNat x) (ofNat y)) fOne = true := by
  obtain ⟨hpos, hle⟩ := fKey_fdiv_ofNat hx hxy hy
  have hnan : isNaN (fdiv (ofNat x) (ofNat y)) = false := by
    rw [fdiv_ofNat hx (hx.trans_le hxy) (hxy.trans hy) hy, isNaN_fRound]
  have hkey0 : fKey fZero = 0 := by decide
  have hkey1 : fKey fOne = 0x3FF0000000000000 := by decide
  obtain ⟨hnan1, -⟩ := fOne_parts
  exact ⟨flt_iff.mpr ⟨by decide, hnan, hkey0 ▸ hpos⟩, by simp [fle, hnan, hnan1, hkey1, hle]⟩

end Sys2Proof.Machine

namespace Sys2Proof.Claims

open Sys2Proof Sys2Proof.Machine

/-- Settles O26, by the sign of the integer, whose magnitude is encoded exactly. -/
theorem integerConversionExact : Obligations.IntegerConversionExact := by
  intro k hk
  rcases Nat.eq_zero_or_pos k.natAbs with hzero | hpos
  · obtain rfl : k = 0 := Int.natAbs_eq_zero.mp hzero
    decide
  · obtain ⟨hfin, -, -⟩ := fRound_nat_parts (decide (k < 0)) hpos hk
    refine ⟨hfin, (ffloor_fRound_nat _ hpos hk).trans ?_⟩
    simp only [decide_eq_true_eq]
    split <;> omega

/-- Settles O28: numerator and denominator are the integers `r + 1 <= RMAX + 1`, exactly. -/
theorem uniformInUnitInterval : Obligations.UniformInUnitInterval := by
  intro s pos hmax
  have hdraw : uniformDraw s pos ≤ s.params.rMax := Nat.lt_succ_iff.mp (Nat.mod_lt _ (Nat.succ_pos _))
  rw [uniform, fadd_ofNat_fOne (hdraw.trans_lt hmax), fadd_ofNat_fOne hmax]
  exact fdiv_ofNat_bounds (Nat.succ_pos _) (Nat.succ_le_succ hdraw) hmax

end Sys2Proof.Claims
end

section
/-!
PROOFS. The index modes and GETSYM (spec/40_symbol_codec.md R133, R134), and the noise of a sample, NOISE and SAMPLE
(spec/43_noise.md R200 to R206, spec/42_synthesizer.md R160, R168).
-/

namespace Sys2Proof.Machine

open Sys2Proof.Claims

/-! ### The index modes (R133) -/

/-- WRAP gives the Euclidean remainder, which is below the symbol count. -/
theorem resolve_wrap {s : State} (h : 0 < symbolCount s) (k : Int) :
    ∃ j, resolve s k .wrap = some j ∧ j < symbolCount s
      ∧ ∃ n : Int, k = n * (symbolCount s : Int) + (j : Int) := by
  have hpos : (0 : Int) < symbolCount s := by exact_mod_cast h
  have hlo := Int.emod_nonneg k hpos.ne'
  have hhi := Int.emod_lt_of_pos k hpos
  refine ⟨(k % (symbolCount s : Int)).toNat, rfl, by omega, k / (symbolCount s : Int), ?_⟩
  rw [Int.toNat_of_nonneg hlo, Int.mul_comm]
  exact (Int.mul_ediv_add_emod k _).symm

/-! ### GETSYM (R134) -/

theorem vBps_iff {s : State} :
    vBps s = true ↔ 1 ≤ bitsPerSymbol s ∧ bitsPerSymbol s ≤ 16 ∧ s.msgLen.toNat ≤ s.params.msgCap := by
  simp only [vBps, Bool.and_eq_true, decide_eq_true_eq, and_assoc]

theorem vBps_eq_false_iff {s : State} :
    vBps s = false ↔ bitsPerSymbol s = 0 ∨ 16 < bitsPerSymbol s ∨ s.params.msgCap < s.msgLen.toNat := by
  rw [← Bool.not_eq_true, vBps_iff]
  omega

/-! ### The noise of a sample (R203, R204) -/

theorem noiseOn_eq (s : State) : noiseOn s = flt s.snrDb 0x4059000000000000 := rfl

/-- A sample with its noise, and the draw position after it. -/
theorem withNoise_eq (s : State) (nz : Bool) (y : F64) (pos : Nat) :
    withNoise s nz y pos = (noisySample s nz y pos, pos + drawsPerSample s nz) := by
  cases nz with
  | false => rfl
  | true =>
    by_cases hon : noiseOn s = true
    · have hnoisy : true = true ∧ flt s.snrDb 0x4059000000000000 = true := ⟨rfl, hon⟩
      rw [noisySample, drawsPerSample, if_pos hnoisy, if_pos hnoisy]
      exact if_pos hon
    · have hquiet : ¬ (true = true ∧ flt s.snrDb 0x4059000000000000 = true) := fun h => hon h.2
      rw [noisySample, drawsPerSample, if_neg hquiet, if_neg hquiet]
      exact if_neg hon

theorem drawsPerSample_eq (s : State) (nz : Bool) : (if nz && noiseOn s then 2 else 0) = drawsPerSample s nz := by
  simp [drawsPerSample, noiseOn_eq]

/-! ### NOISE (R206) -/

theorem exec_noise_of_legal {s : State} (h : vNoise s = true) :
    exec .noise s =
      .next { s with
        res0 := (addNoise s fZero s.drawPos).1, drawPos := (addNoise s fZero s.drawPos).2
        err := false, ecode := 0 } :=
  exec_of_passes (i := .noise) (commandChecks_pass_iff.mpr ⟨by simpa [configChecks] using h, by simp [laterChecks]⟩)

theorem addNoise_of_off {s : State} (h : noiseOn s = false) (y : F64) (pos : Nat) : addNoise s y pos = (y, pos) :=
  if_neg (by simp [h])

/-! ### The checks of SAMPLE and SWEEP (R160, R168, R170) -/

/-- The settings SAMPLE and SWEEP read are legal. -/
theorem forall_mem_synthChecks {s : State} {nz : Bool} (hsyn : vSyn s = true) (hnoise : nz = true → vNoise s = true) :
    ∀ b ∈ [vSyn s, !nz || vNoise s], b = true := by
  simpa [hsyn] using vNoise_check_iff.mpr hnoise

/-- One of the settings SAMPLE and SWEEP read is illegal. -/
theorem false_mem_synthChecks {s : State} {nz : Bool} (h : vSyn s = false ∨ (nz = true ∧ vNoise s = false)) :
    false ∈ [vSyn s, !nz || vNoise s] := by
  rcases h with h | ⟨rfl, h⟩ <;> simp [h]

/-- The times are in range where each symbol index is, or where WRAP has no message to index. -/
theorem timesInRange_iff {s : State} {im : IndexMode} {ts : List F64} :
    timesInRange s im ts = true ↔ (∀ t ∈ ts, symIndexOk s t = true) ∨ (im = .wrap ∧ symbolCount s = 0) := by
  rw [timesInRange, Bool.or_eq_true, silent_iff, List.all_eq_true, or_comm]

/-- The times of a block are in range by the index of each sample. -/
theorem timesInRange_sampleTimes_iff {s : State} {im : IndexMode} {t0 : F64} {n : Nat} :
    timesInRange s im (sampleTimes s t0 n) = true ↔
      (∀ i < n, symIndexOk s (gridTime s t0 i) = true) ∨ (im = .wrap ∧ symbolCount s = 0) := by
  simp [timesInRange_iff, sampleTimes, gridTime]

/-- A symbol index is out of range by the three tests of R160. -/
theorem symIndexOk_eq_false_iff {s : State} {t : F64} :
    symIndexOk s t = false ↔ isFinite (fdiv t s.symbolPeriod) = false
      ∨ ffloor (fdiv t s.symbolPeriod) < -2 ^ 31 + 4 ∨ 2 ^ 31 - 5 < ffloor (fdiv t s.symbolPeriod) := by
  rw [← Bool.not_eq_true, symIndexOk, symIndex]
  simp only [Bool.and_eq_true, decide_eq_true_eq, and_assoc, not_and_or, not_le, Bool.not_eq_true]
  norm_num

end Sys2Proof.Machine

namespace Sys2Proof.Claims

open Sys2Proof Sys2Proof.Machine

/-- Settles O35. -/
theorem indexModesResolve : Obligations.IndexModesResolve := by
  intro s k
  refine ⟨fun h => ⟨if_pos h, if_pos (.inl h)⟩, fun j hj => ?skipneg, fun j hj hlt => ?bounded,
    fun h => if_pos (.inr h), fun h => resolve_wrap h k⟩
  case skipneg =>
    simp [resolve, hj]
  case bounded =>
    have hin : ¬ ((j : Int) < 0 ∨ (symbolCount s : Int) ≤ j) := by omega
    rw [hj, resolve, if_neg hin, Int.toNat_natCast]

/-- Settles O36: GETSYM has the one check of BPS and the message length. -/
theorem getsymResult : Obligations.GetsymResult := by
  refine fun s => ⟨fun hlo hhi hlen => ?legal, fun h => ?illegal⟩
  case legal =>
    exact exec_of_passes (i := .getsym) (commandChecks_pass_iff.mpr
      ⟨by simpa [configChecks] using vBps_iff.mpr ⟨hlo, hhi, hlen⟩, by simp [laterChecks]⟩)
  case illegal => exact exec_of_illegal_setting (by simp [configChecks, vBps_eq_false_iff.mpr h])

/-- Settles O37: the checks pass, and the sample is the noisy one with its draws. -/
theorem sampleResult : Obligations.SampleResult := by
  intro s im nz hsyn hnoise hrange y
  have hpass : firstFailure (commandChecks s (.sample im nz)) = none := commandChecks_pass_iff.mpr
    ⟨forall_mem_synthChecks hsyn hnoise, by simpa [laterChecks, timesInRange_iff] using hrange⟩
  rw [exec_of_passes hpass]
  simp only [commandEffect, sampleEffect, sampleValue, withNoise_eq, State.recordSuccess, State.setPhase,
    State.setDrawPos, State.setRes0, y]

/-- Settles O38: each clause names the first check that fails. -/
theorem sampleAndSweepErrors : Obligations.SampleAndSweepErrors := by
  intro s im nz pr
  refine ⟨fun h => ⟨?_, ?_⟩, fun hsyn hnoise hcount => ?alloc, fun hsyn hnoise hmsg htime => ?sampleRange,
    fun hsyn hnoise hmsg hcount htime => ?sweepRange⟩
  · exact exec_of_illegal_setting (false_mem_synthChecks h)
  · exact exec_of_illegal_setting (false_mem_synthChecks h)
  case alloc =>
    exact exec_of_later_failure (e := .alloc) (forall_mem_synthChecks hsyn hnoise)
      (by simp [laterChecks, vCount_eq_false_iff.mpr hcount])
  case sampleRange =>
    have hout : timesInRange s im [s.arg0] = false := by
      rw [← Bool.not_eq_true, timesInRange_iff]
      simpa [hmsg] using symIndexOk_eq_false_iff.mpr htime
    exact exec_of_later_failure (e := .range) (forall_mem_synthChecks hsyn hnoise) (by simp [laterChecks, hout])
  case sweepRange =>
    obtain ⟨i, hi, hbad⟩ := htime
    have hout : timesInRange s im (sampleTimes s s.arg0 s.count.toNat) = false := by
      rw [← Bool.not_eq_true, timesInRange_sampleTimes_iff]
      rintro (hall | hsilent)
      · exact Bool.false_ne_true (hbad.symm.trans (hall i hi))
      · exact hmsg hsilent
    exact exec_of_later_failure (e := .range) (forall_mem_synthChecks hsyn hnoise)
      (by simp [laterChecks, vCount_iff.mpr hcount, hout])

/-- Settles O44, by whether the settings are legal and whether noise is on. -/
theorem noiseResult : Obligations.NoiseResult := by
  intro s u g sd
  refine ⟨fun hlegal hon => ?on, fun hlegal hoff => ?off, fun h => ?illegal⟩
  case on =>
    have hnoise : addNoise s fZero s.drawPos = (fadd 0 (fmul g sd), s.drawPos + 2) := if_pos hon
    rw [exec_noise_of_legal hlegal, hnoise]
  case off =>
    rw [exec_noise_of_legal hlegal, addNoise_of_off hoff]
    rfl
  case illegal => exact exec_of_illegal_setting (by simp [configChecks, h])

end Sys2Proof.Claims
end

section
/-!
PROOFS. Noise off (spec/43_noise.md R203), and SWEEP: its samples, its grid and its FSK phase
(spec/42_synthesizer.md R169, R170, R174).
-/

namespace Sys2Proof.Machine

open Sys2Proof.Claims

/-! ### Noise off (R203) -/

/-- Commands with the same checks and the same effect do the same. -/
theorem exec_congr {i j : Instr} {s : State} (hchecks : commandChecks s i = commandChecks s j)
    (heffect : commandEffect i s = commandEffect j s) : exec i s = exec j s := by
  simp only [exec_eq_guarded_commandEffect, guarded, hchecks, heffect]

theorem withNoise_of_off {s : State} (h : noiseOn s = false) (nz : Bool) (y : F64) (pos : Nat) :
    withNoise s nz y pos = (y, pos) := by
  cases nz with
  | false => rfl
  | true => exact addNoise_of_off h y pos

theorem synthBlock_of_off {s : State} (h : noiseOn s = false) (im : IndexMode) (nz : Bool) (ts : List F64) (ph : F64)
    (pos : Nat) : synthBlock s im nz ts ph pos = synthBlock s im false ts ph pos := by
  induction ts generalizing ph pos with
  | nil => rfl
  | cons t ts ih => simp only [synthBlock, withNoise_of_off h, ih]

theorem spectrumBlock_of_off {s : State} (h : noiseOn s = false) (nz : Bool) :
    spectrumBlock s nz = spectrumBlock s false := by
  simp only [spectrumBlock, synthBlock_of_off h .wrap nz]

theorem iqOutput_of_off {s : State} (h : noiseOn s = false) (nz : Bool) : iqOutput s nz = iqOutput s false := by
  rw [iqOutput_of_not_noisy (nz := nz) (by simp [h]), iqOutput_of_not_noisy (nz := false) (by simp)]

/-- An SNR_DB of 100.0 or more turns noise off. -/
theorem noiseOn_eq_false_of_fle {s : State} (h : fle 0x4059000000000000 s.snrDb = true) : noiseOn s = false := by
  simp only [fle, Bool.and_eq_true, Bool.not_eq_true', decide_eq_true_eq] at h
  obtain ⟨-, hkey⟩ := h
  exact flt_eq_false_iff.mpr fun _ _ => hkey

theorem snrOk_of_vNoise {s : State} (h : vNoise s = true) : snrOk s = true := by
  simp only [vNoise, Bool.and_eq_true] at h
  exact h.2

/-! ### The samples of a block -/

theorem sampleTimes_getElem (s : State) (t0 : F64) {n i : Nat} (h : i < (sampleTimes s t0 n).length) :
    (sampleTimes s t0 n)[i] = gridTime s t0 i := by
  simp [sampleTimes, gridTime]

theorem take_sampleTimes (s : State) (t0 : F64) {n i : Nat} (h : i ≤ n) :
    (sampleTimes s t0 n).take i = sampleTimes s t0 i := by
  rw [sampleTimes, ← List.map_take, List.take_range, Nat.min_eq_left h, sampleTimes]

/-- The phase threaded through the first `n` samples of a block. -/
theorem foldl_sampleTimes (s : State) (im : IndexMode) (t0 ph : F64) (n : Nat) :
    (sampleTimes s t0 n).foldl (fun ph t => (synth s t im ph).2) ph = phaseBefore s im t0 ph n := by
  rw [sampleTimes, List.foldl_map]
  rfl

theorem synthBlock_sampleTimes_phase (s : State) (im : IndexMode) (nz : Bool) (t0 ph : F64) (n pos : Nat) :
    (synthBlock s im nz (sampleTimes s t0 n) ph pos).phase = phaseBefore s im t0 ph n := by
  rw [synthBlock_phase, foldl_sampleTimes]

theorem synthBlock_sampleTimes_drawPos (s : State) (im : IndexMode) (nz : Bool) (t0 ph : F64) (n pos : Nat) :
    (synthBlock s im nz (sampleTimes s t0 n) ph pos).drawPos = pos + drawsPerSample s nz * n := by
  rw [synthBlock_drawPos, drawsPerSample_eq, sampleTimes_length]

/-- Sample `i` of a block on the grid, its noise taken from the state's draws. -/
theorem synthBlock_sampleTimes_getElem? (s : State) (im : IndexMode) (nz : Bool) (t0 ph : F64) {n i : Nat}
    (h : i < n) :
    (synthBlock s im nz (sampleTimes s t0 n) ph s.drawPos).samples[i]? = some (blockSample s im nz t0 ph i) := by
  have hi : i < (sampleTimes s t0 n).length := by simpa using h
  rw [List.getElem?_eq_getElem (by rwa [synthBlock_length]), synthBlock_sample s im nz _ ph s.drawPos i hi,
    sampleTimes_getElem, take_sampleTimes s t0 h.le, foldl_sampleTimes, drawsPerSample_eq, withNoise_eq]
  rfl

/-! ### SWEEP's effect -/

/-- What SWEEP leaves: the samples in RE, the draws taken, and PHASE. -/
theorem sweepEffect_recordSuccess (im : IndexMode) (nz pr : Bool) (s : State) :
    (sweepEffect im nz pr s).recordSuccess = { s with
      mem := (writeElements s .re (sweepBlock s im nz pr).samples).mem
      drawPos := s.drawPos + drawsPerSample s nz * s.count.toNat
      phase := if modKind s = .fsk then phaseBefore s im s.arg0 (if pr then 0 else s.phase) s.count.toNat
        else if pr then 0 else s.phase
      err := false, ecode := 0 } := by
  have hdraw : (sweepBlock s im nz pr).drawPos = s.drawPos + drawsPerSample s nz * s.count.toNat :=
    synthBlock_sampleTimes_drawPos _ _ _ _ _ _ _
  have hphase : (sweepBlock s im nz pr).phase = phaseBefore s im s.arg0 (if pr then 0 else s.phase) s.count.toNat :=
    synthBlock_sampleTimes_phase _ _ _ _ _ _ _
  simp only [sweepEffect, hdraw, hphase, State.recordSuccess, State.setPhase, State.setDrawPos, writeElements,
    State.setMem, fZero]

/-- An element is read from the memory alone. -/
theorem readElement_congr {s t : State} (h : ∀ a, readByte t a = readByte s a) (r : Region) (i : Nat) :
    readElement t r i = readElement s r i := by
  simp only [readElement, memRead, readBytes, h]

theorem readByte_congr_mem {s t : State} (hmem : t.mem = s.mem) (hreset : t.resetCount = s.resetCount) (a : Nat) :
    readByte t a = readByte s a := by
  simp only [readByte, hmem, hreset]

/-- Element `i` of RE after SWEEP is sample `i` of the block. -/
theorem readElement_sweepEffect {im : IndexMode} {nz pr : Bool} {s : State} {i : Nat} (h : i < s.count.toNat) :
    readElement (sweepEffect im nz pr s).recordSuccess .re i =
      blockSample s im nz s.arg0 (if pr then 0 else s.phase) i := by
  have hi : i < (sweepBlock s im nz pr).samples.length := by rwa [sweepBlock_length]
  have hsample : (sweepBlock s im nz pr).samples[i]? = some (blockSample s im nz s.arg0 (if pr then 0 else s.phase) i) :=
    synthBlock_sampleTimes_getElem? s im nz s.arg0 _ h
  calc readElement (sweepEffect im nz pr s).recordSuccess .re i
      = readElement (writeElements s .re (sweepBlock s im nz pr).samples) .re i :=
        readElement_congr (readByte_congr_mem (by simp [sweepEffect]) (by simp [sweepEffect])) .re i
    _ = (sweepBlock s im nz pr).samples[i] := readElement_writeElements_self _ _ _ hi
    _ = blockSample s im nz s.arg0 (if pr then 0 else s.phase) i := by
      rw [List.getElem?_eq_getElem hi] at hsample
      exact Option.some.inj hsample

/-- SWEEP with legal settings, a COUNT in range and times in range has its effect. -/
theorem exec_sweep_of_legal {s : State} {im : IndexMode} {nz pr : Bool} (hsyn : vSyn s = true)
    (hnoise : nz = true → vNoise s = true) (hcount : s.count.toNat ≤ s.params.nMax)
    (hrange : (∀ i < s.count.toNat, symIndexOk s (gridTime s s.arg0 i) = true) ∨ (im = .wrap ∧ symbolCount s = 0)) :
    exec (.sweep im nz pr) s = .next (sweepEffect im nz pr s).recordSuccess := by
  refine exec_of_passes (i := .sweep im nz pr) (commandChecks_pass_iff.mpr ⟨forall_mem_synthChecks hsyn hnoise, ?_⟩)
  simpa [laterChecks, vCount_iff.mpr hcount] using timesInRange_sampleTimes_iff.mpr hrange

/-! ### The sample function and the phase -/

/-- Without FSK a sample does not depend on the phase. -/
theorem synth_fst_of_not_fsk {s : State} (h : modKind s ≠ .fsk) (t : F64) (im : IndexMode) (ph ph' : F64) :
    (synth s t im ph).1 = (synth s t im ph').1 := by
  unfold synth
  split
  · rfl
  · cases hmod : modKind s with
    | fsk => exact absurd hmod h
    | ask | psk | reserved => rfl

/-- Under WRAP with an empty message no sample moves the phase. -/
theorem phaseBefore_of_silent {s : State} {im : IndexMode} (h : im = .wrap ∧ symbolCount s = 0) (t0 ph : F64) (n : Nat) :
    phaseBefore s im t0 ph n = ph := by
  simp only [phaseBefore, synth_of_silent h]
  exact List.foldl_fixed _

/-- Under FSK every sample moves the phase by its increment. -/
theorem phaseBefore_of_fsk {s : State} {im : IndexMode} (h : ¬ (im = .wrap ∧ symbolCount s = 0))
    (hmod : modKind s = .fsk) (t0 ph : F64) (n : Nat) :
    phaseBefore s im t0 ph n = (List.range n).foldl (fun ph i => fskPhase s (gridTime s t0 i) im ph) ph := by
  simp only [phaseBefore, synth_of_fsk h hmod]

end Sys2Proof.Machine

namespace Sys2Proof.Claims

open Sys2Proof Sys2Proof.Machine

/-- Settles O45: with noise off the noise of every block and point is the identity, and its check holds. -/
theorem noiseOffIsExact : Obligations.NoiseOffIsExact := by
  intro s im pr hnoise hsnr
  have hoff := noiseOn_eq_false_of_fle hsnr
  have hsnrOk := snrOk_of_vNoise hnoise
  refine ⟨exec_congr ?_ ?_, exec_congr ?_ ?_, exec_congr ?_ ?_, exec_congr ?_ ?_⟩
  · simp [commandChecks, configChecks, laterChecks, hnoise]
  · simp only [commandEffect, sampleEffect, withNoise_of_off hoff]
  · simp [commandChecks, configChecks, laterChecks, hnoise]
  · simp only [commandEffect, sweepEffect, sweepBlock, synthBlock_of_off hoff im true]
  · simp [commandChecks, configChecks, laterChecks, hsnrOk]
  · simp only [commandEffect, iqOutput_of_off hoff true]
  · simp [commandChecks, configChecks, laterChecks, hnoise]
  · simp only [commandEffect, spectrumEffect, spectrumBlock_of_off hoff true]

/-- Settles O39: the checks pass, and the effect is a block of samples on the grid written to RE. -/
theorem sweepResult : Obligations.SweepResult := by
  intro s im nz pr hsyn hnoise hcount hrange ph
  refine ⟨_, exec_sweep_of_legal hsyn hnoise hcount hrange, ?state, ?frame, fun i => readElement_sweepEffect⟩
  case state => rw [sweepEffect_recordSuccess]
  case frame =>
    exact (writesOnly_commandEffect (.sweep im nz pr) s).readByte_eq

/-- Settles O40: a noiseless sample that does not depend on the phase is that of its time. -/
theorem sweepSamplesItsGrid : Obligations.SweepSamplesItsGrid := by
  intro s t im pr hmod h herr i hi
  obtain ⟨-, rfl⟩ := exec_next_of_not_err h herr
  exact (readElement_sweepEffect hi).trans (synth_fst_of_not_fsk hmod _ im _ _)

/-- Settles O41: PHASE after the sweep is the phase threaded through its samples. -/
theorem sweepAccumulatesPhase : Obligations.SweepAccumulatesPhase := by
  intro s t im nz pr hmod h herr
  obtain ⟨-, rfl⟩ := exec_next_of_not_err h herr
  have hphase : (sweepEffect im nz pr s).recordSuccess.phase =
      phaseBefore s im s.arg0 (if pr then 0 else s.phase) s.count.toNat := by
    rw [sweepEffect_recordSuccess]
    exact if_pos hmod
  exact ⟨fun hmsg => hphase.trans (phaseBefore_of_fsk hmsg hmod _ _ _),
    fun hsilent => hphase.trans (phaseBefore_of_silent hsilent _ _ _)⟩

end Sys2Proof.Claims
end

section
/-!
PROOFS. What a block of samples reads of the state, and so that the samples packed are determined by it
(spec/45_export_control.md R274).
-/

namespace Sys2Proof.Machine

open Sys2Proof.Claims

/-! ### The inputs of a block of samples -/

/-- The two states agree on all that a block of samples reads: the parameters, the registers of the synthesizer and
of the noise, and the message. -/
structure SameSynthInputs (s s' : State) : Prop where
  params : s'.params = s.params
  modcfg : s'.modcfg = s.modcfg
  amplitude : s'.amplitude = s.amplitude
  carrierFreq : s'.carrierFreq = s.carrierFreq
  symbolPeriod : s'.symbolPeriod = s.symbolPeriod
  rollOff : s'.rollOff = s.rollOff
  samplingRate : s'.samplingRate = s.samplingRate
  snrDb : s'.snrDb = s.snrDb
  msgLen : s'.msgLen = s.msgLen
  msgByte : ∀ j < s.msgLen.toNat, msgByte s' j = msgByte s j

namespace SameSynthInputs

variable {s s' : State}

theorem of_sameExportInputs (h : SameExportInputs s s') : SameSynthInputs s s' := by
  obtain ⟨hparams, ⟨hmodcfg, hamp, hcarrier, hperiod, hroll, hrate, hsnr, -, -, -, -, -, hlen, -⟩, hmsg⟩ := h
  exact ⟨hparams, hmodcfg, hamp, hcarrier, hperiod, hroll, hrate, hsnr, hlen, hmsg⟩

/-! #### The codec -/

theorem modKind_eq (h : SameSynthInputs s s') : modKind s' = modKind s := by
  simp only [modKind, h.modcfg]

theorem bitsPerSymbol_eq (h : SameSynthInputs s s') : bitsPerSymbol s' = bitsPerSymbol s := by
  simp only [bitsPerSymbol, h.modcfg]

theorem alphabetSize_eq (h : SameSynthInputs s s') : alphabetSize s' = alphabetSize s := by
  simp only [alphabetSize, h.bitsPerSymbol_eq]

theorem symbolCount_eq (h : SameSynthInputs s s') : symbolCount s' = symbolCount s := by
  simp only [symbolCount, h.bitsPerSymbol_eq, h.msgLen]

theorem resolve_eq (h : SameSynthInputs s s') (k : Int) (im : IndexMode) : resolve s' k im = resolve s k im := by
  cases im <;> simp only [resolve, h.symbolCount_eq]

/-- A bit of the message is read only inside it. -/
theorem bitAt_eq (h : SameSynthInputs s s') (k : Nat) : bitAt s' k = bitAt s k := by
  simp only [bitAt, h.msgLen]
  split
  next hin => rw [h.msgByte _ hin]
  next => rfl

theorem symbolAt_eq (h : SameSynthInputs s s') (j b : Nat) : symbolAt s' j b = symbolAt s j b := by
  simp only [symbolAt, h.msgLen, h.bitAt_eq]

/-! #### The sample function -/

theorem symIndex_eq (h : SameSynthInputs s s') (t : F64) : symIndex s' t = symIndex s t := by
  simp only [symIndex, h.symbolPeriod]

theorem pulseTerms_eq (h : SameSynthInputs s s') (t : F64) (im : IndexMode) : pulseTerms s' t im = pulseTerms s t im := by
  simp only [pulseTerms, centre, h.symIndex_eq, h.resolve_eq, h.symbolAt_eq, h.bitsPerSymbol_eq, h.params,
    h.symbolPeriod, h.rollOff]

theorem askSample_eq (h : SameSynthInputs s s') (t : F64) (im : IndexMode) : askSample s' t im = askSample s t im := by
  simp only [askSample, askWeight, h.pulseTerms_eq, h.alphabetSize_eq, h.amplitude, h.carrierFreq]

theorem pskSample_eq (h : SameSynthInputs s s') (t : F64) (im : IndexMode) : pskSample s' t im = pskSample s t im := by
  simp only [pskSample, pskAngle, h.pulseTerms_eq, h.alphabetSize_eq, h.amplitude, h.carrierFreq]

theorem fskSample_eq (h : SameSynthInputs s s') (t : F64) (im : IndexMode) (ph : F64) :
    fskSample s' t im ph = fskSample s t im ph := by
  simp only [fskSample, fskPhase_eq, h.symIndex_eq, h.resolve_eq, h.symbolAt_eq, h.bitsPerSymbol_eq, h.amplitude,
    h.carrierFreq, h.samplingRate]

theorem silent_eq (h : SameSynthInputs s s') (im : IndexMode) : silent s' im = silent s im := by
  simp only [silent, h.symbolCount_eq]

theorem synth_eq (h : SameSynthInputs s s') (t : F64) (im : IndexMode) (ph : F64) :
    synth s' t im ph = synth s t im ph := by
  simp only [synth, h.silent_eq, h.modKind_eq, h.askSample_eq, h.pskSample_eq, h.fskSample_eq]

/-! #### The noise -/

theorem noiseOn_eq (h : SameSynthInputs s s') : noiseOn s' = noiseOn s := by
  simp only [noiseOn, h.snrDb]

theorem gauss_eq (h : SameSynthInputs s s') (pos : Nat) : gauss s' pos = gauss s pos := by
  simp only [gauss, uniform, uniformDraw, h.params]

theorem withNoise_eq (h : SameSynthInputs s s') (nz : Bool) (y : F64) (pos : Nat) :
    withNoise s' nz y pos = withNoise s nz y pos := by
  simp only [withNoise, addNoise, sampleNoiseSd, snrLinear, h.noiseOn_eq, h.gauss_eq, h.amplitude, h.snrDb]

/-! #### Blocks and their checks -/

theorem synthBlock_eq (h : SameSynthInputs s s') (im : IndexMode) (nz : Bool) (ts : List F64) (ph : F64) (pos : Nat) :
    synthBlock s' im nz ts ph pos = synthBlock s im nz ts ph pos := by
  induction ts generalizing ph pos with
  | nil => rfl
  | cons t ts ih => simp only [synthBlock, h.synth_eq, h.withNoise_eq, ih]

theorem sampleTimes_eq (h : SameSynthInputs s s') (t0 : F64) (n : Nat) : sampleTimes s' t0 n = sampleTimes s t0 n := by
  simp only [sampleTimes, h.samplingRate]

theorem timesInRange_eq (h : SameSynthInputs s s') (im : IndexMode) (ts : List F64) :
    timesInRange s' im ts = timesInRange s im ts := by
  have hindex : symIndexOk s' = symIndexOk s := funext fun t => by
    simp only [symIndexOk, h.symIndex_eq, h.symbolPeriod]
  simp only [timesInRange, h.silent_eq, hindex]

theorem vSyn_eq (h : SameSynthInputs s s') : vSyn s' = vSyn s := by
  simp only [vSyn, vMod, vBps, amplitudeOk, rollOffOk, h.modKind_eq, h.bitsPerSymbol_eq, h.msgLen, h.params,
    h.amplitude, h.carrierFreq, h.rollOff, h.symbolPeriod, h.samplingRate]

theorem vNoise_eq (h : SameSynthInputs s s') : vNoise s' = vNoise s := by
  simp only [vNoise, amplitudeOk, snrOk, h.amplitude, h.snrDb]

end SameSynthInputs

/-! ### SWEEP from the same inputs -/

/-- Without NZ the samples do not depend on the draw position. -/
theorem synthBlock_samples_of_not_nz (s : State) (im : IndexMode) (ts : List F64) (ph : F64) (pos pos' : Nat) :
    (synthBlock s im false ts ph pos).samples = (synthBlock s im false ts ph pos').samples := by
  induction ts generalizing ph pos pos' with
  | nil => rfl
  | cons t ts ih =>
    simp only [synthBlock, List.cons.injEq]
    exact ⟨rfl, ih _ _ _⟩

theorem commandChecks_sweep_eq {s s' : State} (h : SameExportInputs s s') (im : IndexMode) (nz pr : Bool) :
    commandChecks s' (.sweep im nz pr) = commandChecks s (.sweep im nz pr) := by
  have hin := SameSynthInputs.of_sameExportInputs h
  obtain ⟨hparams, ⟨-, -, -, -, -, -, -, -, -, -, -, -, -, hcount, harg0, -⟩, -⟩ := h
  simp only [commandChecks, configChecks, laterChecks, vCount, hin.vSyn_eq, hin.vNoise_eq, hin.timesInRange_eq,
    hin.sampleTimes_eq, hparams, hcount, harg0]

/-- The samples of two sweeps from the same inputs, the same starting phase and, with NZ, the same draws. -/
theorem sweepBlock_samples_eq {s s' : State} (h : SameExportInputs s s') (im : IndexMode) {nz pr : Bool}
    (hphase : pr = true ∨ s'.phase = s.phase) (hdraw : nz = false ∨ s'.drawPos = s.drawPos) :
    (sweepBlock s' im nz pr).samples = (sweepBlock s im nz pr).samples := by
  have hin := SameSynthInputs.of_sameExportInputs h
  obtain ⟨-, ⟨-, -, -, -, -, -, -, -, -, -, -, -, -, hcount, harg0, -⟩, -⟩ := h
  have hstart : (if pr then fZero else s'.phase) = if pr then fZero else s.phase := by
    rcases hphase with rfl | hphase
    · rfl
    · rw [hphase]
  simp only [sweepBlock, hin.synthBlock_eq, hin.sampleTimes_eq, hcount, harg0, hstart]
  rcases hdraw with rfl | hdraw
  · exact synthBlock_samples_of_not_nz s im _ _ _ _
  · rw [hdraw]

/-! ### PACK32 after SWEEP -/

/-- Every byte of the packed samples is determined by them. -/
theorem readByte_packInto_congr {s s' : State} {xs : List F64} {a : Nat} (h : Within 0x240000 (4 * xs.length) a) :
    readByte (packInto s' xs) a = readByte (packInto s xs) a := by
  obtain ⟨hlo, hhi⟩ := h
  obtain ⟨i, k, hk, rfl⟩ : ∃ i k, k < 4 ∧ a = 0x240000 + 4 * i + k :=
    ⟨(a - 0x240000) / 4, (a - 0x240000) % 4, by omega, by omega⟩
  have hi : i < xs.length := by omega
  rw [readByte_packInto_inside s' hi hk, readByte_packInto_inside s hi hk]

/-- RE after a sweep holds the block's samples. -/
theorem readElements_sweepEffect (im : IndexMode) (nz pr : Bool) (s : State) :
    readElements (sweepEffect im nz pr s).recordSuccess .re s.count.toNat = (sweepBlock s im nz pr).samples := by
  apply List.ext_getElem
  · simp
  · intro i hi hi'
    rw [readElements_getElem, readElement_congr (s := writeElements s .re (sweepBlock s im nz pr).samples)
      (readByte_congr_mem (by simp [sweepEffect]) (by simp [sweepEffect])), readElement_writeElements_self _ _ _ hi']

/-- COUNT passed SWEEP's check, so PACK32 after it succeeds and packs the block. -/
theorem exec_pack32_after_sweep {s u : State} {im : IndexMode} {nz pr : Bool}
    (hpass : firstFailure (commandChecks s (.sweep im nz pr)) = none)
    (hu : exec .pack32 (sweepEffect im nz pr s).recordSuccess = .next u) :
    u = (packInto (sweepEffect im nz pr s).recordSuccess (sweepBlock s im nz pr).samples).recordSuccess := by
  obtain ⟨-, hlater⟩ := commandChecks_pass_iff.mp hpass
  have hcount := vCount_iff.mp (hlater (vCount s, .alloc) (by simp [laterChecks]))
  have hcount' : (sweepEffect im nz pr s).recordSuccess.count = s.count := by simp [sweepEffect]
  have hparams' : (sweepEffect im nz pr s).recordSuccess.params = s.params := by simp [sweepEffect]
  rw [exec_pack32_of_count_le (by rw [hcount', hparams']; exact hcount), hcount', readElements_sweepEffect] at hu
  injection hu with hu
  exact hu.symm

end Sys2Proof.Machine

namespace Sys2Proof.Claims

open Sys2Proof Sys2Proof.Machine

/-- Settles O60: the two sweeps pass the same checks and compute the same samples, which determine every byte that is
packed. -/
theorem exportIsDeterministic : Obligations.ExportIsDeterministic := by
  intro s s' t t' u u' im nz pr hin hphase hdraw ht ht' herr hu hu'
  obtain ⟨hpass, rfl⟩ := exec_next_of_not_err ht herr
  have hpass' : firstFailure (commandChecks s' (.sweep im nz pr)) = none := by
    rw [commandChecks_sweep_eq hin]
    exact hpass
  rw [exec_of_passes hpass'] at ht'
  injection ht' with ht'
  subst ht'
  obtain rfl := exec_pack32_after_sweep hpass hu
  obtain rfl := exec_pack32_after_sweep hpass' hu'
  refine ⟨rfl, rfl, rfl, fun a ha => ?_⟩
  rw [readByte_recordSuccess, readByte_recordSuccess, sweepBlock_samples_eq hin im hphase hdraw]
  exact readByte_packInto_congr (by rwa [sweepBlock_length])

end Sys2Proof.Claims
end

section
/-!
PROOFS. FFT (spec/44_spectral.md R224 to R226): steps that each touch their own elements of a buffer, the stages made
of them, and what FFT leaves in RE and IM; then POWER (R229) and HOVER (R245, R247).
-/

namespace Sys2Proof.Machine

open Sys2Proof.Claims

/-! ### Steps that touch only their own elements -/

/-- On buffers of `N` elements `f` changes only the elements at `R`, and computes them from the elements at `R`. -/
structure TouchesOnly (N : Nat) (R : Nat → Prop) (f : List (F64 × F64) → List (F64 × F64)) : Prop where
  length_eq : ∀ xs, (f xs).length = xs.length
  outside : ∀ xs, xs.length = N → ∀ i, ¬ R i → cget (f xs) i = cget xs i
  inside : ∀ xs ys, xs.length = N → ys.length = N → (∀ i, R i → cget xs i = cget ys i) →
    ∀ i, R i → cget (f xs) i = cget (f ys) i

section
variable {N n : Nat} {R : Nat → Nat → Prop} {f : Nat → List (F64 × F64) → List (F64 × F64)}

/-- A run of the steps `0 .. n - 1` over a buffer. -/
def runSteps (f : Nat → List (F64 × F64) → List (F64 × F64)) (n : Nat) (xs : List (F64 × F64)) : List (F64 × F64) :=
  (List.range n).foldl (fun xs k => f k xs) xs

theorem runSteps_succ (n : Nat) (xs : List (F64 × F64)) : runSteps f (n + 1) xs = f n (runSteps f n xs) := by
  rw [runSteps, List.range_succ, List.foldl_append]
  rfl

theorem runSteps_length (hf : ∀ k < n, TouchesOnly N (R k) (f k)) (xs : List (F64 × F64)) :
    (runSteps f n xs).length = xs.length := by
  induction n with
  | zero => rfl
  | succ n ih => rw [runSteps_succ, (hf n (Nat.lt_succ_self n)).length_eq, ih fun k hk => hf k (by omega)]

/-- An element that no step touches is left alone. -/
theorem cget_runSteps_outside (hf : ∀ k < n, TouchesOnly N (R k) (f k)) {xs : List (F64 × F64)} (hN : xs.length = N)
    {i : Nat} (hi : ∀ k < n, ¬ R k i) : cget (runSteps f n xs) i = cget xs i := by
  induction n with
  | zero => rfl
  | succ n ih =>
    have hf' : ∀ k < n, TouchesOnly N (R k) (f k) := fun k hk => hf k (by omega)
    rw [runSteps_succ, (hf n (Nat.lt_succ_self n)).outside _ ((runSteps_length hf' xs).trans hN) i
      (hi n (Nat.lt_succ_self n)), ih hf' fun k hk => hi k (by omega)]

/-- With disjoint places, an element that step `k` touches is what that step alone makes of the first buffer. -/
theorem cget_runSteps_inside (hf : ∀ k < n, TouchesOnly N (R k) (f k))
    (hdisj : ∀ k < n, ∀ k' < n, ∀ i, R k i → R k' i → k = k') {xs : List (F64 × F64)} (hN : xs.length = N) {k i : Nat}
    (hk : k < n) (hi : R k i) : cget (runSteps f n xs) i = cget (f k xs) i := by
  induction n with
  | zero => omega
  | succ n ih =>
    have hf' : ∀ k < n, TouchesOnly N (R k) (f k) := fun k hk => hf k (by omega)
    have hdisj' : ∀ k < n, ∀ k' < n, ∀ i, R k i → R k' i → k = k' :=
      fun k hk k' hk' => hdisj k (by omega) k' (by omega)
    have hlast := hf n (Nat.lt_succ_self n)
    have hlen := (runSteps_length hf' xs).trans hN
    rw [runSteps_succ]
    rcases Nat.lt_succ_iff_lt_or_eq.mp hk with hlt | rfl
    · have hother : ¬ R n i := fun hn => hlt.ne (hdisj k hk n (Nat.lt_succ_self n) i hi hn)
      rw [hlast.outside _ hlen i hother, ih hf' hdisj' hlt]
    · refine hlast.inside _ _ hlen hN (fun j hj => cget_runSteps_outside hf' hN fun k' hk' hj' => ?_) i hi
      exact hk'.ne (hdisj k' (by omega) k hk j hj' hj)

/-- A run of steps with disjoint places touches only the places of its steps. -/
theorem touchesOnly_runSteps (hf : ∀ k < n, TouchesOnly N (R k) (f k))
    (hdisj : ∀ k < n, ∀ k' < n, ∀ i, R k i → R k' i → k = k') :
    TouchesOnly N (fun i => ∃ k < n, R k i) (runSteps f n) where
  length_eq := runSteps_length hf
  outside xs hN i hi := cget_runSteps_outside hf hN fun k hk hki => hi ⟨k, hk, hki⟩
  inside xs ys hxs hys hagree i := fun ⟨k, hk, hki⟩ => by
    rw [cget_runSteps_inside hf hdisj hxs hk hki, cget_runSteps_inside hf hdisj hys hk hki]
    exact (hf k hk).inside xs ys hxs hys (fun j hj => hagree j ⟨k, hk, hj⟩) i hki

end

/-! ### Butterflies (R224) -/

theorem touchesOnly_butterfly {N p q : Nat} (w : F64 × F64) (hp : p < N) (hq : q < N) :
    TouchesOnly N (fun i => i = p ∨ i = q) (butterfly w p q) where
  length_eq := butterfly_length w p q
  outside xs hN i hi := by
    obtain ⟨hip, hiq⟩ := not_or.mp hi
    rw [cget_butterfly w xs i (hN ▸ hp) (hN ▸ hq)]
    simp only [hip, hiq, if_false]
  inside xs ys hxs hys hagree i hi := by
    rw [cget_butterfly w xs i (hxs ▸ hp) (hxs ▸ hq), cget_butterfly w ys i (hys ▸ hp) (hys ▸ hq)]
    simp only [hagree p (.inl rfl), hagree q (.inr rfl), hagree i hi]

/-- The butterflies of the block at `base`, whose length is twice `half`. -/
theorem butterflyBlock_eq (half base : Nat) (xs : List (F64 × F64)) :
    butterflyBlock (2 * half) base xs =
      runSteps (fun j => butterfly (twiddle j (2 * half)) (base + j) (base + j + half)) half xs := by
  rw [butterflyBlock, Nat.mul_div_cancel_left half (by decide)]
  rfl

section
variable {N half base : Nat}

theorem touchesOnly_blockStep (h : base + 2 * half ≤ N) :
    ∀ j < half, TouchesOnly N (fun i => i = base + j ∨ i = base + j + half)
      (butterfly (twiddle j (2 * half)) (base + j) (base + j + half)) :=
  fun _ _ => touchesOnly_butterfly _ (by omega) (by omega)

theorem blockSteps_disjoint : ∀ j < half, ∀ j' < half, ∀ i, (i = base + j ∨ i = base + j + half) →
    (i = base + j' ∨ i = base + j' + half) → j = j' := by
  omega

theorem touchesOnly_butterflyBlock (h : base + 2 * half ≤ N) :
    TouchesOnly N (fun i => ∃ j < half, i = base + j ∨ i = base + j + half) (butterflyBlock (2 * half) base) := by
  rw [funext (butterflyBlock_eq half base)]
  exact touchesOnly_runSteps (touchesOnly_blockStep h) blockSteps_disjoint

/-- An element of a block is what its own butterfly makes of the block's input. -/
theorem cget_butterflyBlock (h : base + 2 * half ≤ N) {xs : List (F64 × F64)} (hN : xs.length = N) {j i : Nat}
    (hj : j < half) (hi : i = base + j ∨ i = base + j + half) :
    cget (butterflyBlock (2 * half) base xs) i =
      cget (butterfly (twiddle j (2 * half)) (base + j) (base + j + half) xs) i := by
  rw [butterflyBlock_eq]
  exact cget_runSteps_inside (touchesOnly_blockStep h) blockSteps_disjoint hN hj hi

end

/-- An element of a stage is what its own butterfly makes of the stage's input. -/
theorem cget_butterflyStage {half blocks : Nat} (hhalf : 0 < half) {xs : List (F64 × F64)}
    (hN : xs.length = blocks * (2 * half)) {block j i : Nat} (hblock : block < blocks) (hj : j < half)
    (hi : i = block * (2 * half) + j ∨ i = block * (2 * half) + j + half) :
    cget (butterflyStage (blocks * (2 * half)) (2 * half) xs) i =
      cget (butterfly (twiddle j (2 * half)) (block * (2 * half) + j) (block * (2 * half) + j + half) xs) i := by
  have hend : ∀ k < blocks, k * (2 * half) + 2 * half ≤ blocks * (2 * half) := fun k hk => by
    rw [← Nat.succ_mul]
    exact Nat.mul_le_mul_right _ hk
  have hdisj : ∀ k < blocks, ∀ k' < blocks, ∀ i, (∃ j < half, i = k * (2 * half) + j ∨ i = k * (2 * half) + j + half) →
      (∃ j < half, i = k' * (2 * half) + j ∨ i = k' * (2 * half) + j + half) → k = k' := by
    have hquot : ∀ k i, (∃ j < half, i = k * (2 * half) + j ∨ i = k * (2 * half) + j + half) → i / (2 * half) = k := by
      rintro k i ⟨j, hj, hi⟩
      exact Nat.div_eq_of_lt_le (by omega) (by rw [Nat.succ_mul]; omega)
    exact fun k _ k' _ i hk hk' => (hquot k i hk).symm.trans (hquot k' i hk')
  have hstage : butterflyStage (blocks * (2 * half)) (2 * half) xs =
      runSteps (fun k => butterflyBlock (2 * half) (k * (2 * half))) blocks xs := by
    rw [butterflyStage, Nat.mul_div_cancel blocks (by omega)]
    rfl
  rw [hstage, cget_runSteps_inside (fun k hk => touchesOnly_butterflyBlock (hend k hk)) hdisj hN hblock ⟨j, hj, hi⟩]
  exact cget_butterflyBlock (hend block hblock) hN hj hi

/-- The two elements of each butterfly of a stage, from the stage's input. -/
theorem cget_butterflyStage_pow {m k block j : Nat} {xs : List (F64 × F64)} (hN : xs.length = 2 ^ m) (hk : k < m)
    (hblock : block < 2 ^ (m - k - 1)) (hj : j < 2 ^ k) :
    let len := 2 ^ (k + 1)
    let p := block * len + j
    let q := p + 2 ^ k
    let w := twiddle j len
    let xr := fsub (fmul (cget xs q).1 w.1) (fmul (cget xs q).2 w.2)
    let xi := fadd (fmul (cget xs q).1 w.2) (fmul (cget xs q).2 w.1)
    cget (butterflyStage (2 ^ m) len xs) p = (fadd (cget xs p).1 xr, fadd (cget xs p).2 xi) ∧
    cget (butterflyStage (2 ^ m) len xs) q = (fsub (cget xs p).1 xr, fsub (cget xs p).2 xi) := by
  intro len p q w xr xi
  have hlen : len = 2 * 2 ^ k := Nat.pow_succ'
  have hm : 2 ^ m = 2 ^ (m - k - 1) * (2 * 2 ^ k) := by
    rw [← Nat.pow_succ', ← Nat.pow_add]
    congr 1
    omega
  have hbound : p + 2 ^ k < xs.length := by
    have hle : (block + 1) * (2 * 2 ^ k) ≤ 2 ^ (m - k - 1) * (2 * 2 ^ k) := Nat.mul_le_mul_right _ hblock
    rw [Nat.succ_mul] at hle
    rw [hN, hm]
    simp only [p, hlen]
    omega
  have hp : p < xs.length := by omega
  have hpos : 0 < 2 ^ k := Nat.two_pow_pos k
  have hne : q ≠ p := by omega
  have hstage : ∀ i, i = p ∨ i = q → cget (butterflyStage (2 ^ m) len xs) i = cget (butterfly w p q xs) i := by
    intro i hi
    simp only [p, q, w, hlen] at hi ⊢
    rw [hm]
    exact cget_butterflyStage hpos (hN.trans hm) hblock hj hi
  exact ⟨(hstage p (.inl rfl)).trans ((cget_butterfly w xs p hp hbound).trans (if_pos rfl)),
    (hstage q (.inr rfl)).trans ((cget_butterfly w xs q hp hbound).trans ((if_neg hne).trans (if_pos rfl)))⟩

/-- The transform is the bit reversal and then the stages of length 2, 4, ..., `2^m`. -/
theorem fftTransform_pow (m : Nat) (xs : List (F64 × F64)) :
    fftTransform (2 ^ m) xs =
      (List.range m).foldl (fun ys k => butterflyStage (2 ^ m) (2 ^ (k + 1)) ys) (bitReverse m xs) := by
  rw [fftTransform, Nat.log2_two_pow]
  rfl

theorem fftTransform_two (xs : List (F64 × F64)) : fftTransform 2 xs = butterflyStage 2 2 (bitReverse 1 xs) := by
  have h := fftTransform_pow 1 xs
  rwa [List.range_one, List.foldl_cons, List.foldl_nil, Nat.pow_one] at h

/-! ### RE and IM after FFT (R226) -/

theorem exec_fft_of_legal {s : State} (hn : LegalFftSize s) :
    exec .fft s = .next (transformBuffers s).recordSuccess := by
  obtain ⟨hpow2, hcap⟩ := hn
  exact exec_of_passes (i := .fft) (commandChecks_pass_iff.mpr
    ⟨by simp [configChecks, vFftPow2_iff.mpr hpow2], by simp [laterChecks, vFftCap_iff.mpr hcap]⟩)

theorem getElem_eq_cget {xs : List (F64 × F64)} {i : Nat} (h : i < xs.length) : xs[i] = cget xs i :=
  (List.getD_eq_getElem _ _ h).symm

/-- The elements of RE and IM become those of the transform: with at most 65536 elements RE ends where IM begins. -/
theorem readElement_transformBuffers {s : State} (hcap : fftLength s ≤ 65536) {i : Nat} (h : i < fftLength s) :
    readElement (transformBuffers s) .re i = (cget (transformed s) i).1
      ∧ readElement (transformBuffers s) .im i = (cget (transformed s) i).2 := by
  have hi : i < (transformed s).length := by rwa [transformed_length]
  rw [transformBuffers_eq]
  constructor
  · rw [readElement_writeElements_other _ _ _ _ (.inl (by simp only [Region.element, Region.base]; omega)),
      readElement_writeElements_self _ _ _ (by rwa [List.length_map]), List.getElem_map, getElem_eq_cget hi]
  · rw [readElement_writeElements_self _ _ _ (by rwa [List.length_map]), List.getElem_map, getElem_eq_cget hi]

/-- The buffers before a transform, element by element. -/
theorem cget_zip_readElements (s : State) {n i : Nat} (h : i < n) :
    cget ((readElements s .re n).zip (readElements s .im n)) i = (readElement s .re i, readElement s .im i) := by
  rw [← getElem_eq_cget (by simpa using h)]
  simp

/-- The bit reversal of two elements moves none. -/
theorem cget_bitReverse_two (s : State) {i : Nat} (h : i < 2) :
    cget (bitReverse 1 ((readElements s .re 2).zip (readElements s .im 2))) i =
      (readElement s .re i, readElement s .im i) := by
  have hrev : bitRev 1 i = i := by interval_cases i <;> rfl
  rw [cget_bitReverse (by simp) h, hrev, cget_zip_readElements s h]

/-- The transform of two elements is one butterfly. -/
theorem cget_transformed_two {s : State} (hN : fftLength s = 2) :
    let w := twiddle 0 2
    let xr := fsub (fmul (readElement s .re 1) w.1) (fmul (readElement s .im 1) w.2)
    let xi := fadd (fmul (readElement s .re 1) w.2) (fmul (readElement s .im 1) w.1)
    cget (transformed s) 0 = (fadd (readElement s .re 0) xr, fadd (readElement s .im 0) xi)
      ∧ cget (transformed s) 1 = (fsub (readElement s .re 0) xr, fsub (readElement s .im 0) xi) := by
  have hlen : (bitReverse 1 ((readElements s .re 2).zip (readElements s .im 2))).length = 2 ^ 1 := by simp
  have hpair := cget_butterflyStage_pow hlen (k := 0) (block := 0) (j := 0) (by decide) (by decide) (by decide)
  simp only [Nat.zero_mul, Nat.zero_add, Nat.pow_zero, Nat.pow_one, cget_bitReverse_two s (show 0 < 2 by decide),
    cget_bitReverse_two s (show 1 < 2 by decide)] at hpair
  rw [transformed, hN, fftTransform_two]
  exact hpair

/-- Transforming changes memory and nothing else. -/
theorem transformBuffers_frame (s : State) :
    (transformBuffers s).recordSuccess =
      { s with mem := (transformBuffers s).recordSuccess.mem, err := false, ecode := 0 } := by
  simp only [transformBuffers, writeElements, State.setMem, State.recordSuccess]

/-! ### POWER (R229) -/

theorem exec_power_of_legal {s : State} (hn : LegalFftSize s) (hpow : vPow s = true) :
    exec .power s = .next (fillPsd s).recordSuccess := by
  obtain ⟨hpow2, hcap⟩ := hn
  exact exec_of_passes (i := .power) (commandChecks_pass_iff.mpr
    ⟨by simp [configChecks, vFftPow2_iff.mpr hpow2, hpow], by simp [laterChecks, vFftCap_iff.mpr hcap]⟩)

theorem readElement_fillPsd {s : State} {i : Nat} (h : i < halfLength s) :
    readElement (fillPsd s) .psd i = powerDb s (readElement s .re i) (readElement s .im i) := by
  rw [fillPsd, readElement_writeElements_self _ _ _ (by simpa using h)]
  simp

/-- Filling PSD changes memory and nothing else. -/
theorem fillPsd_frame (s : State) :
    (fillPsd s).recordSuccess = { s with mem := (fillPsd s).recordSuccess.mem, err := false, ecode := 0 } := by
  simp only [fillPsd, writeElements, State.setMem, State.recordSuccess]

/-! ### HOVER (R245, R247) -/

theorem startBin_eq (s : State) : startBin s = s.binRange.toNat % 2 ^ 32 := by
  simp [startBin, BitVec.extractLsb'_toNat]

theorem endBin_eq (s : State) : endBin s = s.binRange.toNat / 2 ^ 32 := by
  have := s.binRange.isLt
  rw [endBin, BitVec.extractLsb'_toNat, Nat.shiftRight_eq_div_pow]
  omega

/-- The bin of a query is one of the latched range, if that holds a bin. -/
theorem hoverBin_bounds {s : State} (h : startBin s < endBin s) (f : F64) :
    (startBin s : Int) ≤ hoverBin s f ∧ hoverBin s f < (endBin s : Int) := by
  simp only [hoverBin]
  split
  · omega
  · split <;> omega

theorem exec_hover_of_valid {s : State} (hnan : isNaN s.arg0 = false) (hvalid : s.specValid = true) :
    exec .hover s = .next (hoverEffect s).recordSuccess :=
  exec_of_passes (i := .hover) (commandChecks_pass_iff.mpr
    ⟨by simp [configChecks, hnan], by simp [laterChecks, hvalid]⟩)

end Sys2Proof.Machine

namespace Sys2Proof.Claims

open Sys2Proof Sys2Proof.Machine

/-- Settles O48: FFT writes the transform back, and the butterflies of a stage touch disjoint pairs of elements. -/
theorem fftResult : Obligations.FftResult := by
  refine ⟨?command, fftTransform_pow, fun m k block j xs hlen hk hblock hj => ?stage, fun _ _ => rfl⟩
  case command =>
    intro s hn n ys
    have hcap : fftLength s ≤ 65536 := hn.2.trans (nMax_le _)
    refine ⟨_, exec_fft_of_legal hn, transformBuffers_frame s, fun a ha => ?frame, transformed_length s,
      fun i hi => ?elements⟩
    case frame => rw [readByte_recordSuccess, (writesOnly_transformBuffers s).readByte_eq a ha]
    case elements =>
      rw [readElement_recordSuccess, readElement_recordSuccess]
      exact readElement_transformBuffers hcap hi
  case stage => exact ⟨(butterflyStage_length _ _ _).trans hlen, cget_butterflyStage_pow hlen hk hblock hj⟩

/-- Settles O49: two elements have the identity as their bit reversal, and one stage of one butterfly. -/
theorem fftOfTwo : Obligations.FftOfTwo := by
  intro s t hsize h w xr xi
  have hN : fftLength s = 2 := by simp [fftLength, hsize]
  have hcap : fftLength s ≤ s.params.nMax := hN ▸ Nat.le_self_pow (by omega) 2
  rw [exec_fft_of_legal ⟨⟨1, le_rfl, hN⟩, hcap⟩] at h
  injection h with h
  subst h
  obtain ⟨h0, h1⟩ := cget_transformed_two hN
  obtain ⟨hre0, him0⟩ := readElement_transformBuffers (s := s) (i := 0) (by omega) (by omega)
  obtain ⟨hre1, him1⟩ := readElement_transformBuffers (s := s) (i := 1) (by omega) (by omega)
  simp only [readElement_recordSuccess, hre0, him0, hre1, him1, h0, h1]
  exact ⟨rfl, rfl, rfl, rfl⟩

/-- Settles O50: POWER writes the dB scalars to PSD, which holds none of the elements they are made of. -/
theorem powerResult : Obligations.PowerResult := by
  intro s hn hpow
  refine ⟨_, exec_power_of_legal hn hpow, fillPsd_frame s, fun a ha => ?frame, fun i hi => ?elements⟩
  case frame => rw [readByte_recordSuccess, (writesOnly_fillPsd s).readByte_eq a ha]
  case elements => rw [readElement_recordSuccess, readElement_fillPsd hi]

/-- Settles O58: the two halves of BINRANGE are the range, and the clamps keep the bin inside it. -/
theorem hoverResult : Obligations.HoverResult := by
  intro s sb eb x k hnan hvalid hlt _
  have hsb : startBin s = sb := startBin_eq s
  have heb : endBin s = eb := endBin_eq s
  have hk : hoverBin s s.arg0 = k := by
    simp only [hoverBin, hsb, heb, fHalf, fPosInf, fNegInf, k, x]
  rw [← hk, ← hsb, ← heb]
  refine ⟨?_, hoverBin_bounds (by rwa [hsb, heb]) s.arg0⟩
  rw [exec_hover_of_valid hnan hvalid]
  simp only [hoverEffect, State.recordSuccess, State.setRes1, State.setRes0, State.setResi]

end Sys2Proof.Claims
end

section
/-!
PROOFS. SPECTRUM (spec/44_spectral.md R239 to R244): the windowed samples, their transform, the PSD and the mapping.
-/

namespace Sys2Proof.Machine

open Sys2Proof.Claims

/-! ### The samples (R240, R243) -/

/-- Sample `i` of SPECTRUM before the window: silence for an empty message. -/
def spectrumSample (s : State) (nz : Bool) (i : Nat) : F64 :=
  if symbolCount s = 0 then 0 else blockSample s .wrap nz s.timeOffset 0 i

theorem spectrumBlock_getElem (s : State) (nz : Bool) {i : Nat} (h : i < (spectrumBlock s nz).samples.length) :
    (spectrumBlock s nz).samples[i] = spectrumSample s nz i := by
  have hi : i < fftLength s := by rwa [spectrumBlock_length] at h
  apply Option.some.inj
  rw [← List.getElem?_eq_getElem h]
  by_cases hmsg : symbolCount s = 0
  · simp [spectrumBlock, spectrumSample, hmsg, hi, fZero]
  · rw [spectrumBlock, if_neg hmsg, spectrumSample, if_neg hmsg]
    exact synthBlock_sampleTimes_getElem? s .wrap nz s.timeOffset fZero hi

theorem spectrumBlock_drawPos_eq (s : State) (nz : Bool) :
    (spectrumBlock s nz).drawPos =
      if symbolCount s = 0 then s.drawPos else s.drawPos + drawsPerSample s nz * s.fftSize.toNat := by
  by_cases hmsg : symbolCount s = 0
  · simp [spectrumBlock, hmsg]
  · rw [spectrumBlock, if_neg hmsg, if_neg hmsg]
    exact synthBlock_sampleTimes_drawPos _ _ _ _ _ _ _

/-! ### The window and the transform -/

theorem winWeight_eq_windowWeight (s : State) (i : Nat) : winWeight s i = windowWeight s i := by
  unfold winWeight windowWeight
  cases winKind s <;> rfl

/-- What SPECTRUM transforms: the samples times their weights, with imaginary parts `+0.0` (R244). -/
def spectrumInput (s : State) (nz : Bool) : List (F64 × F64) :=
  (List.range (fftLength s)).map (fun i => (fmul (spectrumSample s nz i) (windowWeight s i), 0))

/-- RE and IM before the transform. -/
theorem readElement_windowedSpectrum {s : State} (nz : Bool) (hcap : fftLength s ≤ 65536) {i : Nat}
    (h : i < fftLength s) :
    readElement (windowedSpectrum nz s) .re i = fmul (spectrumSample s nz i) (windowWeight s i)
      ∧ readElement (windowedSpectrum nz s) .im i = 0 := by
  have hi : i < (spectrumBlock s nz).samples.length := by rwa [spectrumBlock_length]
  have hread : ∀ r, readElement (windowedSpectrum nz s) r i =
      readElement (windowInto s (spectrumBlock s nz).samples) r i := fun r =>
    readElement_congr (readByte_congr_mem (setDrawPos_mem _ _) (setDrawPos_resetCount _ _)) r i
  constructor
  · rw [hread, readElement_windowInto_re s hi, spectrumBlock_getElem, winWeight_eq_windowWeight]
  · rw [hread, readElement_windowInto_im s hi (by rwa [spectrumBlock_length])]
    rfl

/-- The transform is that of the windowed samples. -/
theorem transformed_windowedSpectrum {s : State} (nz : Bool) (hcap : fftLength s ≤ 65536) :
    transformed (windowedSpectrum nz s) = fftTransform (fftLength s) (spectrumInput s nz) := by
  have hN : fftLength (windowedSpectrum nz s) = fftLength s := by simp only [fftLength, windowedSpectrum_fftSize]
  have hinput : (readElements (windowedSpectrum nz s) .re (fftLength s)).zip
      (readElements (windowedSpectrum nz s) .im (fftLength s)) = spectrumInput s nz := by
    apply List.ext_getElem
    · simp [spectrumInput]
    · intro i hi _
      obtain ⟨hre, him⟩ := readElement_windowedSpectrum nz hcap (i := i) (by simpa using hi)
      simp [spectrumInput, hre, him]
  rw [transformed, hN, hinput]

/-! ### PSD -/

/-- The state SPECTRUM latches its mapping from: the transform in RE and IM, and the PSD filled. -/
def filledSpectrum (nz : Bool) (s : State) : State := fillPsd (transformBuffers (windowedSpectrum nz s))

/-- Filling PSD leaves RE and IM alone: both end where PSD begins or before. -/
theorem readElement_fillPsd_other {s : State} {r : Region} (hr : r = .re ∨ r = .im) {i : Nat} (h : i < 65536) :
    readElement (fillPsd s) r i = readElement s r i := by
  refine readElement_writeElements_other _ _ _ _ (.inl ?_)
  rcases hr with rfl | rfl <;> simp only [Region.element, Region.base] <;> omega

/-- The dB scalar reads only SPECTRUM_POWER and the size. -/
theorem powerDb_eq_decibels {s t : State} (hpow : t.spectrumPower = s.spectrumPower) (hN : t.fftSize = s.fftSize)
    (re im : F64) : powerDb t re im = decibels s re im := by
  simp only [powerDb, decibels, fftLength, hpow, hN]
  rfl

theorem readElement_filledSpectrum_re_im {s : State} (nz : Bool) (hcap : fftLength s ≤ 65536) {i : Nat}
    (h : i < fftLength s) :
    readElement (filledSpectrum nz s) .re i = (cget (fftTransform (fftLength s) (spectrumInput s nz)) i).1
      ∧ readElement (filledSpectrum nz s) .im i = (cget (fftTransform (fftLength s) (spectrumInput s nz)) i).2 := by
  have hN : fftLength (windowedSpectrum nz s) = fftLength s := by simp only [fftLength, windowedSpectrum_fftSize]
  rw [filledSpectrum, readElement_fillPsd_other (.inl rfl) (h.trans_le hcap),
    readElement_fillPsd_other (.inr rfl) (h.trans_le hcap), ← transformed_windowedSpectrum nz hcap]
  exact readElement_transformBuffers (by rw [hN]; exact hcap) (by rw [hN]; exact h)

/-- PSD after filling, in the size and the exponent of an earlier state. -/
theorem readElement_fillPsd_decibels {s u : State} (hpow : u.spectrumPower = s.spectrumPower)
    (hN : u.fftSize = s.fftSize) (hcap : fftLength s ≤ 65536) {i : Nat} (h : i < halfLength s) :
    readElement (fillPsd u) .psd i =
      decibels s (readElement (fillPsd u) .re i) (readElement (fillPsd u) .im i) := by
  have hi : i < 65536 := (h.trans_le (Nat.div_le_self _ _)).trans_le hcap
  have hhalf : halfLength u = halfLength s := by simp only [halfLength, fftLength, hN]
  rw [readElement_fillPsd (by rw [hhalf]; exact h), readElement_fillPsd_other (.inl rfl) hi,
    readElement_fillPsd_other (.inr rfl) hi]
  exact powerDb_eq_decibels hpow hN _ _

theorem windowedSpectrum_spectrumPower (nz : Bool) (s : State) :
    (windowedSpectrum nz s).spectrumPower = s.spectrumPower := by
  simp [windowedSpectrum, windowInto]

theorem readElement_filledSpectrum_psd {s : State} (nz : Bool) (hcap : fftLength s ≤ 65536) {i : Nat}
    (h : i < halfLength s) :
    readElement (filledSpectrum nz s) .psd i =
      decibels s (readElement (filledSpectrum nz s) .re i) (readElement (filledSpectrum nz s) .im i) :=
  readElement_fillPsd_decibels
    ((transformBuffers_spectrumPower _).trans (windowedSpectrum_spectrumPower nz s))
    ((transformBuffers_fftSize _).trans (windowedSpectrum_fftSize nz s)) hcap h

/-! ### The mapping, and everything else -/

theorem eq_setMem_trans {s t u : State} (h : t = s.setMem t.mem) (h' : u = t.setMem u.mem) : u = s.setMem u.mem := by
  rw [h', h]
  simp only [State.setMem]

theorem windowInto_eq_setMem (s : State) (xs : List F64) : windowInto s xs = s.setMem (windowInto s xs).mem := by
  simp only [windowInto, writeElements, State.setMem]

theorem transformBuffers_eq_setMem (s : State) : transformBuffers s = s.setMem (transformBuffers s).mem := by
  simp only [transformBuffers, writeElements, State.setMem]

theorem fillPsd_eq_setMem (s : State) : fillPsd s = s.setMem (fillPsd s).mem := by
  simp only [fillPsd, writeElements, State.setMem]

theorem windowedSpectrum_eq_setMem (nz : Bool) (s : State) :
    windowedSpectrum nz s = (s.setDrawPos (spectrumBlock s nz).drawPos).setMem (windowedSpectrum nz s).mem := by
  simp only [windowedSpectrum, windowInto, writeElements, State.setMem, State.setDrawPos]

/-- SPECTRUM before its mapping is latched differs in memory and draws only. -/
theorem filledSpectrum_eq (nz : Bool) (s : State) :
    filledSpectrum nz s = (s.setDrawPos (spectrumBlock s nz).drawPos).setMem (filledSpectrum nz s).mem :=
  eq_setMem_trans (windowedSpectrum_eq_setMem nz s)
    (eq_setMem_trans (transformBuffers_eq_setMem _) (fillPsd_eq_setMem _))

theorem peakOver_congr {s t : State} (h : ∀ a, readByte t a = readByte s a) (sb eb : Nat) :
    peakOver t sb eb = peakOver s sb eb := by
  simp only [peakOver, readElement_congr h]

theorem readByte_latchVisible (s : State) (a : Nat) : readByte (latchVisible s).recordSuccess a = readByte s a :=
  readByte_congr_mem (by simp) (by simp) a

/-- What BINMAP leaves, its peak read off the PSD it leaves. -/
theorem latchVisible_recordSuccess_eq (s : State) :
    (latchVisible s).recordSuccess = { s with
      freqPerBin := widthOfBins s
      binRange := BitVec.ofNat 32 (visibleRange s).2 ++ BitVec.ofNat 32 (visibleRange s).1
      maxDb := peakOver (latchVisible s).recordSuccess (visibleRange s).1 (visibleRange s).2
      specValid := true, err := false, ecode := 0 } := by
  rw [peakOver_congr (readByte_latchVisible s), latchVisible_eq]
  rfl

/-- The mapping is that of the registers, whatever memory and the draws are. -/
theorem widthOfBins_setMem_setDrawPos (s : State) (p : Nat) (m : Memory) :
    widthOfBins ((s.setDrawPos p).setMem m) = widthOfBins s := rfl

theorem visibleRange_setMem_setDrawPos (s : State) (p : Nat) (m : Memory) :
    visibleRange ((s.setDrawPos p).setMem m) = visibleRange s := rfl

theorem latchVisible_setMem_setDrawPos (s : State) (p : Nat) (m : Memory) :
    (latchVisible ((s.setDrawPos p).setMem m)).recordSuccess = { s with
      mem := (latchVisible ((s.setDrawPos p).setMem m)).recordSuccess.mem
      drawPos := p
      freqPerBin := widthOfBins s
      binRange := BitVec.ofNat 32 (visibleRange s).2 ++ BitVec.ofNat 32 (visibleRange s).1
      maxDb := peakOver (latchVisible ((s.setDrawPos p).setMem m)).recordSuccess (visibleRange s).1 (visibleRange s).2
      specValid := true, err := false, ecode := 0 } := by
  have hmem : (latchVisible ((s.setDrawPos p).setMem m)).recordSuccess.mem = m := by simp
  have h := latchVisible_recordSuccess_eq ((s.setDrawPos p).setMem m)
  rw [widthOfBins_setMem_setDrawPos, visibleRange_setMem_setDrawPos] at h
  rw [hmem]
  refine h.trans ?_
  simp only [State.setMem, State.setDrawPos]

/-- SPECTRUM writes memory, the draws and the mapping, whose peak is that of the PSD it leaves. -/
theorem spectrumEffect_recordSuccess (nz : Bool) (s : State) :
    (spectrumEffect nz s).recordSuccess = { s with
      mem := (spectrumEffect nz s).recordSuccess.mem
      drawPos := (spectrumBlock s nz).drawPos
      freqPerBin := widthOfBins s
      binRange := BitVec.ofNat 32 (visibleRange s).2 ++ BitVec.ofNat 32 (visibleRange s).1
      maxDb := peakOver (spectrumEffect nz s).recordSuccess (visibleRange s).1 (visibleRange s).2
      specValid := true, err := false, ecode := 0 } := by
  have heffect : spectrumEffect nz s =
      latchVisible ((s.setDrawPos (spectrumBlock s nz).drawPos).setMem (filledSpectrum nz s).mem) := by
    rw [← filledSpectrum_eq]
    rfl
  rw [heffect]
  exact latchVisible_setMem_setDrawPos s _ _

/-- SPECTRUM with legal settings, a size in range and times in range has its effect. -/
theorem exec_spectrum_of_legal {s : State} {nz : Bool} (hn : LegalFftSize s) (hsyn : vSyn s = true)
    (hwin : winKind s ≠ .reserved) (hpow : vPow s = true) (hmap : vMap s = true)
    (htime : isFinite s.timeOffset = true) (hnoise : nz = true → vNoise s = true)
    (hrange : symbolCount s = 0 ∨ ∀ i < s.fftSize.toNat, symIndexOk s (gridTime s s.timeOffset i) = true) :
    exec (.spectrum nz) s = .next (spectrumEffect nz s).recordSuccess := by
  obtain ⟨hpow2, hcap⟩ := hn
  have htimes : timesInRange s .wrap (spectrumTimes s) = true :=
    timesInRange_sampleTimes_iff.mpr (hrange.symm.imp_right fun h => ⟨rfl, h⟩)
  refine exec_of_passes (i := .spectrum nz) (commandChecks_pass_iff.mpr ⟨?_, ?_⟩)
  · simpa [configChecks, vFftPow2_iff.mpr hpow2, vWin_iff.mpr hwin, hsyn, hpow, hmap, htime] using
      vNoise_check_iff.mpr hnoise
  · simp [laterChecks, vFftCap_iff.mpr hcap, htimes]

end Sys2Proof.Machine

namespace Sys2Proof.Claims

open Sys2Proof Sys2Proof.Machine

/-- Settles O56: the checks pass, and the effect is the steps of the estimator on the windowed samples. -/
theorem spectrumResult : Obligations.SpectrumResult := by
  intro s nz hn hsyn hwin hpow hmap htime hnoise hrange n y ys
  have hcap : fftLength s ≤ 65536 := hn.2.trans (nMax_le _)
  have hread : ∀ r i, readElement (spectrumEffect nz s).recordSuccess r i = readElement (filledSpectrum nz s) r i :=
    readElement_congr (readByte_latchVisible _)
  refine ⟨_, exec_spectrum_of_legal hn hsyn hwin hpow hmap htime hnoise hrange, ?state, fun a ha => ?frame,
    fun i hi => ?transform, fun i hi => ?psd⟩
  case state =>
    rw [← spectrumBlock_drawPos_eq]
    exact spectrumEffect_recordSuccess nz s
  case frame => rw [readByte_recordSuccess, (writesOnly_spectrumEffect nz s).readByte_eq a ha]
  case transform =>
    rw [hread, hread]
    exact readElement_filledSpectrum_re_im nz hcap hi
  case psd =>
    rw [hread, hread, hread]
    exact readElement_filledSpectrum_psd nz hcap hi

end Sys2Proof.Claims
end

section
/-!
PROOFS. SPECTRUM is the steps it is made of (spec/44_spectral.md sections 1 to 6).

`SpectralAgree D s s'` relates the state inside SPECTRUM to the one after the same step run as a command. Every step
keeps it. SWEEP leaves the samples in RE, where SPECTRUM has written nothing yet: there the relation starts with
`D` the bytes of RE, and WINDOW writes them all.
-/

namespace Sys2Proof.Machine

open Sys2Proof.Claims

/-! ### Agreement on what the spectral steps read -/

/-- The two states agree on the registers the spectral steps read, and on every byte of memory outside `D`. -/
structure SpectralAgree (D : Nat → Prop) (s s' : State) : Prop where
  params : s'.params = s.params
  modcfg : s'.modcfg = s.modcfg
  samplingRate : s'.samplingRate = s.samplingRate
  fftSize : s'.fftSize = s.fftSize
  spectrumPower : s'.spectrumPower = s.spectrumPower
  centerFreq : s'.centerFreq = s.centerFreq
  span : s'.span = s.span
  readByte_eq : ∀ a, ¬ D a → readByte s' a = readByte s a

/-- A byte of the elements written is determined by them. -/
theorem readByte_writeElements_inside (s s' : State) {r : Region} {xs : List F64} {a : Nat}
    (h : Within r.base (8 * xs.length) a) : readByte (writeElements s' r xs) a = readByte (writeElements s r xs) a := by
  obtain ⟨hlo, hhi⟩ := h
  obtain ⟨i, rfl⟩ := Nat.exists_eq_add_of_le hlo
  have hi : i < (xs.flatMap (fun x => leBytes 8 x.toNat)).length := by
    rw [elementBytes_length]
    omega
  simp only [readByte, writeElements_mem, Memory.lookup_writeBytes_inside _ _ _ hi, Option.getD_some]

namespace SpectralAgree

variable {D D' : Nat → Prop} {s s' : State}

theorem mono (h : SpectralAgree D s s') (hD : ∀ a, D a → D' a) : SpectralAgree D' s s' :=
  { h with readByte_eq := fun a ha => h.readByte_eq a (mt (hD a) ha) }

/-- The same elements written to both states make them agree where they are written. -/
theorem writeElements (h : SpectralAgree D s s') (r : Region) (xs : List F64) :
    SpectralAgree (fun a => D a ∧ ¬ Within r.base (8 * xs.length) a) (writeElements s r xs)
      (writeElements s' r xs) where
  params := h.params
  modcfg := h.modcfg
  samplingRate := h.samplingRate
  fftSize := h.fftSize
  spectrumPower := h.spectrumPower
  centerFreq := h.centerFreq
  span := h.span
  readByte_eq a ha := by
    by_cases hin : Within r.base (8 * xs.length) a
    · exact readByte_writeElements_inside s s' hin
    · rw [readByte_writeElements_outside hin, readByte_writeElements_outside hin]
      exact h.readByte_eq a fun hD => ha ⟨hD, hin⟩

theorem recordSuccess (h : SpectralAgree D s s') : SpectralAgree D s s'.recordSuccess where
  params := h.params
  modcfg := h.modcfg
  samplingRate := h.samplingRate
  fftSize := h.fftSize
  spectrumPower := h.spectrumPower
  centerFreq := h.centerFreq
  span := h.span
  readByte_eq a ha := (readByte_recordSuccess s' a).trans (h.readByte_eq a ha)

theorem setDrawPos (h : SpectralAgree D s s') (p : Nat) : SpectralAgree D (s.setDrawPos p) s' where
  params := h.params
  modcfg := h.modcfg
  samplingRate := h.samplingRate
  fftSize := h.fftSize
  spectrumPower := h.spectrumPower
  centerFreq := h.centerFreq
  span := h.span
  readByte_eq a ha := h.readByte_eq a ha

/-! #### The settings -/

theorem fftLength_eq (h : SpectralAgree D s s') : fftLength s' = fftLength s := by
  simp only [fftLength, h.fftSize]

theorem halfLength_eq (h : SpectralAgree D s s') : halfLength s' = halfLength s := by
  simp only [halfLength, h.fftLength_eq]

theorem legalFftSize (h : SpectralAgree D s s') (hn : LegalFftSize s) : LegalFftSize s' := by
  rwa [LegalFftSize, h.fftSize, h.params]

theorem winKind_eq (h : SpectralAgree D s s') : winKind s' = winKind s := by
  simp only [winKind, h.modcfg]

theorem vPow_eq (h : SpectralAgree D s s') : vPow s' = vPow s := by
  simp only [vPow, h.spectrumPower]

theorem vMap_eq (h : SpectralAgree D s s') : vMap s' = vMap s := by
  simp only [vMap, h.samplingRate, h.centerFreq, h.span]

/-! #### The steps -/

theorem applyWindow_eq (h : SpectralAgree D s s') (xs : List F64) : applyWindow s' xs = applyWindow s xs := by
  have hweight : winWeight s' = winWeight s := funext fun i => by
    simp only [winWeight, winAngle, h.winKind_eq, h.fftLength_eq]
  simp only [applyWindow, hweight]

/-- WINDOW writes all of the elements where SWEEP differs. -/
theorem windowInto {xs : List F64} (h : SpectralAgree (Within 0x100000 (8 * xs.length)) s s') :
    SpectralAgree (fun _ => False) (windowInto s xs) (windowInto s' xs) := by
  have hboth := (h.writeElements .im (List.replicate xs.length fZero)).writeElements .re (applyWindow s xs)
  rw [Machine.windowInto, Machine.windowInto, h.applyWindow_eq]
  refine hboth.mono fun a ⟨⟨hin, _⟩, hout⟩ => hout ?_
  rwa [applyWindow_length]

theorem readElement_eq (h : SpectralAgree (fun _ => False) s s') (r : Region) (i : Nat) :
    readElement s' r i = readElement s r i :=
  readElement_congr (fun a => h.readByte_eq a not_false) r i

theorem transformed_eq (h : SpectralAgree (fun _ => False) s s') : transformed s' = transformed s := by
  have hread : readElement s' = readElement s := funext fun r => funext fun i => h.readElement_eq r i
  simp only [transformed, readElements, h.fftLength_eq, hread]

theorem transformBuffers (h : SpectralAgree (fun _ => False) s s') :
    SpectralAgree (fun _ => False) (transformBuffers s) (transformBuffers s') := by
  have hboth := (h.writeElements .re ((transformed s).map Prod.fst)).writeElements .im ((transformed s).map Prod.snd)
  rw [transformBuffers_eq, transformBuffers_eq, h.transformed_eq]
  exact hboth.mono fun a ha => ha.1.1

theorem fillPsd (h : SpectralAgree (fun _ => False) s s') :
    SpectralAgree (fun _ => False) (fillPsd s) (fillPsd s') := by
  have hbin : ∀ i, powerDb s' (readElement s' .re i) (readElement s' .im i) =
      powerDb s (readElement s .re i) (readElement s .im i) := fun i => by
    simp only [powerDb, h.readElement_eq, h.spectrumPower, h.fftLength_eq]
  rw [Machine.fillPsd, Machine.fillPsd, h.halfLength_eq]
  simp only [hbin]
  exact (h.writeElements .psd _).mono fun a ha => ha.1

/-- BINMAP latches the same mapping from both. -/
theorem latched_eq (h : SpectralAgree (fun _ => False) s s') :
    binWidth s' = binWidth s ∧ visibleBins s' = visibleBins s
      ∧ peak s' (visibleBins s').1 (visibleBins s').2 = peak s (visibleBins s).1 (visibleBins s).2 := by
  have hwidth : binWidth s' = binWidth s := by
    simp only [binWidth, nyquist, h.halfLength_eq, h.samplingRate]
  have hbins : visibleBins s' = visibleBins s := by
    simp only [visibleBins, visibleLo, visibleHi, binIndex, nyquist, hwidth, h.halfLength_eq, h.samplingRate,
      h.centerFreq, h.span]
  refine ⟨hwidth, hbins, ?_⟩
  rw [hbins, peak_eq_peakOver, peak_eq_peakOver]
  exact peakOver_congr (fun a => h.readByte_eq a not_false) _ _

end SpectralAgree

/-! ### SWEEP in place of SPECTRUM's samples (R240, R243) -/

/-- The state SWEEP runs from to take SPECTRUM's samples. -/
def sweepStart (s : State) : State := { s with arg0 := s.timeOffset, count := s.fftSize }

theorem sameSynthInputs_sweepStart (s : State) : SameSynthInputs s (sweepStart s) :=
  ⟨rfl, rfl, rfl, rfl, rfl, rfl, rfl, rfl, rfl, fun _ _ => rfl⟩

/-- A silent block without noise is `+0.0` throughout. -/
theorem synthBlock_of_silent {s : State} (hmsg : symbolCount s = 0) (ts : List F64) (ph : F64) (pos : Nat) :
    synthBlock s .wrap false ts ph pos = ⟨List.replicate ts.length fZero, ph, pos⟩ := by
  induction ts with
  | nil => rfl
  | cons t ts ih =>
    simp [synthBlock, synth_of_silent ⟨rfl, hmsg⟩, withNoise, ih, List.replicate_succ]

theorem sweepBlock_sweepStart (s : State) (nz : Bool) :
    sweepBlock (sweepStart s) .wrap (nz && symbolCount s != 0) true = spectrumBlock s nz := by
  have hblock : sweepBlock (sweepStart s) .wrap (nz && symbolCount s != 0) true =
      synthBlock s .wrap (nz && symbolCount s != 0) (spectrumTimes s) fZero s.drawPos := by
    rw [sweepBlock, (sameSynthInputs_sweepStart s).synthBlock_eq, (sameSynthInputs_sweepStart s).sampleTimes_eq]
    rfl
  rw [hblock, spectrumBlock]
  by_cases hmsg : symbolCount s = 0
  · simp [hmsg, synthBlock_of_silent hmsg, spectrumTimes]
  · rw [if_neg hmsg, bne_iff_ne.mpr hmsg, Bool.and_true]

/-- SWEEP changes nothing that the spectral steps read but RE, of which WINDOW writes every byte it wrote. -/
theorem spectralAgree_sweep (s : State) (nz : Bool) :
    SpectralAgree (Within 0x100000 (8 * fftLength s)) s
      (sweepEffect .wrap nz true (sweepStart s)).recordSuccess where
  params := by simp [sweepEffect, sweepStart]
  modcfg := by simp [sweepEffect, sweepStart]
  samplingRate := by simp [sweepEffect, sweepStart]
  fftSize := by simp [sweepEffect, sweepStart]
  spectrumPower := by simp [sweepEffect, sweepStart]
  centerFreq := by simp [sweepEffect, sweepStart]
  span := by simp [sweepEffect, sweepStart]
  readByte_eq a ha :=
    (readByte_recordSuccess _ a).trans
      ((writesOnly_commandEffect (.sweep .wrap nz true) (sweepStart s)).readByte_eq a ha)

/-- What a SPECTRUM that succeeds has checked. -/
theorem spectrum_settings {s : State} {nz : Bool} (h : firstFailure (commandChecks s (.spectrum nz)) = none) :
    LegalFftSize s ∧ winKind s ≠ .reserved ∧ vPow s = true ∧ vMap s = true ∧ vSyn s = true
      ∧ (nz = true → vNoise s = true) ∧ timesInRange s .wrap (spectrumTimes s) = true := by
  obtain ⟨hconfig, hlater⟩ := commandChecks_pass_iff.mp h
  simp only [configChecks, laterChecks, List.forall_mem_cons] at hconfig hlater
  obtain ⟨hsize, hsyn, hwin, hpow, hmap, -, hnoise, -⟩ := hconfig
  obtain ⟨hcap, htimes, -⟩ := hlater
  exact ⟨⟨vFftPow2_iff.mp hsize, vFftCap_iff.mp hcap⟩, vWin_iff.mp hwin, hpow, hmap, hsyn,
    vNoise_check_iff.mp hnoise, htimes⟩

theorem exec_sweep_of_spectrum {s : State} {nz : Bool} (h : firstFailure (commandChecks s (.spectrum nz)) = none) :
    exec (.sweep .wrap (nz && symbolCount s != 0) true) (sweepStart s) =
      .next (sweepEffect .wrap (nz && symbolCount s != 0) true (sweepStart s)).recordSuccess := by
  obtain ⟨hn, -, -, -, hsyn, hnoise, htimes⟩ := spectrum_settings h
  have hin := sameSynthInputs_sweepStart s
  refine exec_of_passes (i := .sweep .wrap (nz && symbolCount s != 0) true)
    (commandChecks_pass_iff.mpr ⟨forall_mem_synthChecks (hin.vSyn_eq.trans hsyn) fun hnz => ?_, ?_⟩)
  · exact hin.vNoise_eq.trans (hnoise (Bool.and_eq_true_iff.mp hnz).1)
  · have hcount : vCount (sweepStart s) = true := vCount_iff.mpr hn.2
    have hrange : timesInRange (sweepStart s) .wrap (spectrumTimes s) = true :=
      (hin.timesInRange_eq _ _).trans htimes
    simp only [laterChecks, List.forall_mem_cons]
    exact ⟨hcount, hrange, by simp⟩

/-! ### The steps after WINDOW -/

/-- FFT, POWER and BINMAP succeed one after the other, and leave the bytes and the mapping of the steps themselves. -/
theorem exec_fft_power_binmap_of_agree {u v : State} (h : SpectralAgree (fun _ => False) u v) (hn : LegalFftSize u)
    (hpow : vPow u = true) (hmap : vMap u = true) :
    ∃ t3 t4 t5, exec .fft v = .next t3 ∧ exec .power t3 = .next t4 ∧ exec .binmap t4 = .next t5
      ∧ t3.err = false ∧ t4.err = false ∧ t5.err = false
      ∧ (∀ a, readByte t5 a = readByte (latchVisible (fillPsd (transformBuffers u))).recordSuccess a)
      ∧ t5.freqPerBin = (latchVisible (fillPsd (transformBuffers u))).freqPerBin
      ∧ t5.binRange = (latchVisible (fillPsd (transformBuffers u))).binRange
      ∧ t5.maxDb = (latchVisible (fillPsd (transformBuffers u))).maxDb
      ∧ t5.specValid = (latchVisible (fillPsd (transformBuffers u))).specValid ∧ t5.drawPos = v.drawPos := by
  have hfft := h.transformBuffers.recordSuccess
  have hpsd := hfft.fillPsd.recordSuccess
  obtain ⟨hwidth, hbins, hpeak⟩ := hpsd.latched_eq
  refine ⟨_, _, _, exec_fft_of_legal (h.legalFftSize hn),
    exec_power_of_legal (hfft.legalFftSize (by simpa [LegalFftSize] using hn))
      (hfft.vPow_eq.trans (by simpa [vPow] using hpow)),
    exec_binmap_of_legal (hpsd.legalFftSize (by simpa [LegalFftSize] using hn))
      (hpsd.vMap_eq.trans (by simpa [vMap] using hmap)),
    rfl, rfl, rfl, fun a => ?bytes, ?width, ?range, ?peak, ?valid, ?draws⟩
  case bytes =>
    rw [readByte_latchVisible, readByte_latchVisible]
    exact hpsd.readByte_eq a not_false
  case width => simpa using hwidth
  case range => simp [hbins]
  case peak => simpa using hpeak
  case valid => simp
  case draws => simp

end Sys2Proof.Machine

namespace Sys2Proof.Claims

open Sys2Proof Sys2Proof.Machine

/-- Settles O57: each step run as a command succeeds and keeps the agreement with the state inside SPECTRUM. -/
theorem spectrumEqualsItsSteps : Obligations.SpectrumEqualsItsSteps := by
  intro s t nz ht herr
  obtain ⟨hpass, rfl⟩ := exec_next_of_not_err ht herr
  obtain ⟨hn, hwin, hpow, hmap, -, -, -⟩ := spectrum_settings hpass
  have heffect : commandEffect (.spectrum nz) s = latchVisible (fillPsd (transformBuffers (windowedSpectrum nz s))) :=
    spectrumEffect_eq nz s
  rw [heffect]
  have hsweep := exec_sweep_of_spectrum hpass
  have h1 := spectralAgree_sweep s (nz && symbolCount s != 0)
  have herr1 : (sweepEffect .wrap (nz && symbolCount s != 0) true (sweepStart s)).recordSuccess.err = false := rfl
  have hdraw1 : (sweepEffect .wrap (nz && symbolCount s != 0) true (sweepStart s)).recordSuccess.drawPos =
      (spectrumBlock s nz).drawPos := by
    rw [← sweepBlock_sweepStart]
    simp [sweepEffect]
  have hsamples := readElements_sweepEffect .wrap (nz && symbolCount s != 0) true (sweepStart s)
  rw [sweepBlock_sweepStart] at hsamples
  change readElements _ .re (fftLength s) = _ at hsamples
  generalize (sweepEffect .wrap (nz && symbolCount s != 0) true (sweepStart s)).recordSuccess = t1 at *
  have hwindow := exec_window_of_legal (h1.legalFftSize hn) (by rwa [h1.winKind_eq])
  rw [h1.fftLength_eq, hsamples] at hwindow
  have h2 : SpectralAgree (fun _ => False) (windowedSpectrum nz s)
      (windowInto t1 (spectrumBlock s nz).samples).recordSuccess :=
    (SpectralAgree.windowInto (by rwa [spectrumBlock_length])).recordSuccess.setDrawPos _
  obtain ⟨t3, t4, t5, h3, h4, h5, herr3, herr4, herr5, hbytes, hwidth, hrange, hpeak, hvalid, hdraw5⟩ :=
    exec_fft_power_binmap_of_agree h2 (by simpa [LegalFftSize, windowedSpectrum] using hn)
      (by simpa [vPow, windowedSpectrum] using hpow) (by simpa [vMap, windowedSpectrum] using hmap)
  exact ⟨t1, _, t3, t4, t5, hsweep, hwindow, h3, h4, h5, herr1, rfl, herr3, herr4, herr5, hbytes, hwidth, hrange,
    hpeak, hvalid, hdraw5.trans hdraw1⟩

end Sys2Proof.Claims
end
